-- ==== Sys2Proof/Word.lean ====
section
/-! DEFINITION. The two word types of the core (spec/00_scope.md R9): bytes of 8 bits, words of 16 bits. -/

namespace Sys2Proof

/-- An 8-bit value, bits 7 to 0 (R9). -/
abbrev Byte := BitVec 8

/-- A 16-bit value, bits 15 to 0 (R9): PC, SP, a register pair, an address. -/
abbrev Word := BitVec 16

end Sys2Proof
end

