-- ==== Sys2Proof/Syntax.lean ====
section
/-! DEFINITION. The syntax of the core's instructions: the operand names the spec uses (spec/30_encoding.md R85 to R90)
and Instr, one constructor per row of spec/opcode_table.json: the rows that carry an immediate first, then the others in the
table's order. -/

namespace Sys2Proof

/-- The seven 8-bit general registers (R20), in the order of the register field (R85). -/
inductive Reg8 where
  | b | c | d | e | h | l | a
  deriving DecidableEq, Repr

/-- What the 3-bit register field names (R85): a register, or the memory byte at address HL. -/
inductive Operand8 where
  | reg (r : Reg8)
  | indHL
  deriving DecidableEq, Repr

/-- The three forms of an 8-bit ALU instruction's right operand (R160): register, byte at HL, immediate. -/
inductive Source8 where
  | reg (r : Reg8)
  | indHL
  | imm (n : Byte)
  deriving DecidableEq, Repr

/-- The pair field's table rp (R86). -/
inductive Pair where
  | bc | de | hl | sp
  deriving DecidableEq, Repr

/-- The pair field's table rp2, used by PUSH and POP (R86). -/
inductive StackPair where
  | bc | de | hl | af
  deriving DecidableEq, Repr

/-- The condition field (R87). -/
inductive Cond where
  | nz | z | nc | c
  deriving DecidableEq, Repr

/-- The eight ALU operations in the order of the field alu (R93). -/
inductive AluOp where
  | add | adc | sub | sbc | and | xor | or | cp
  deriving DecidableEq, Repr

/-- The eight rotate and shift operations in the order of the field rot (R97). -/
inductive RotOp where
  | rlc | rrc | rl | rr | sla | sra | swap | srl
  deriving DecidableEq, Repr

/-- The instructions: one constructor per row of spec/opcode_table.json. The comment gives the opcode, the assembler
spelling (R100) and the rule that gives the meaning. An immediate is an argument of exactly its field's width (R88):
`n` unsigned byte, `e` the byte of a signed displacement, `nn` a word. STOP's padding byte is never read (R99), so it is
no argument. -/
inductive Instr where
  | ldBC_nn (nn : Word)  -- 0x01 LD BC,nn (R141)
  | ldB_n (n : Byte)  -- 0x06 LD B,n (R112)
  | ldIndNN_SP (nn : Word)  -- 0x08 LD (nn),SP (R142)
  | ldC_n (n : Byte)  -- 0x0E LD C,n (R112)
  | ldDE_nn (nn : Word)  -- 0x11 LD DE,nn (R141)
  | ldD_n (n : Byte)  -- 0x16 LD D,n (R112)
  | jr_e (e : Byte)  -- 0x18 JR e (R264)
  | ldE_n (n : Byte)  -- 0x1E LD E,n (R112)
  | jrNZ_e (e : Byte)  -- 0x20 JR NZ,e (R265)
  | ldHL_nn (nn : Word)  -- 0x21 LD HL,nn (R141)
  | ldH_n (n : Byte)  -- 0x26 LD H,n (R112)
  | jrZ_e (e : Byte)  -- 0x28 JR Z,e (R265)
  | ldL_n (n : Byte)  -- 0x2E LD L,n (R112)
  | jrNC_e (e : Byte)  -- 0x30 JR NC,e (R265)
  | ldSP_nn (nn : Word)  -- 0x31 LD SP,nn (R141)
  | ldIndHL_n (n : Byte)  -- 0x36 LD (HL),n (R115)
  | jrC_e (e : Byte)  -- 0x38 JR C,e (R265)
  | ldA_n (n : Byte)  -- 0x3E LD A,n (R112)
  | jpNZ_nn (nn : Word)  -- 0xC2 JP NZ,nn (R262)
  | jp_nn (nn : Word)  -- 0xC3 JP nn (R261)
  | callNZ_nn (nn : Word)  -- 0xC4 CALL NZ,nn (R267)
  | addA_n (n : Byte)  -- 0xC6 ADD A,n (R163)
  | jpZ_nn (nn : Word)  -- 0xCA JP Z,nn (R262)
  | callZ_nn (nn : Word)  -- 0xCC CALL Z,nn (R267)
  | call_nn (nn : Word)  -- 0xCD CALL nn (R266)
  | adcA_n (n : Byte)  -- 0xCE ADC A,n (R166)
  | jpNC_nn (nn : Word)  -- 0xD2 JP NC,nn (R262)
  | callNC_nn (nn : Word)  -- 0xD4 CALL NC,nn (R267)
  | sub_n (n : Byte)  -- 0xD6 SUB n (R169)
  | jpC_nn (nn : Word)  -- 0xDA JP C,nn (R262)
  | callC_nn (nn : Word)  -- 0xDC CALL C,nn (R267)
  | sbcA_n (n : Byte)  -- 0xDE SBC A,n (R172)
  | ldhIndN_A (n : Byte)  -- 0xE0 LDH (n),A (R123)
  | and_n (n : Byte)  -- 0xE6 AND n (R175)
  | addSP_e (e : Byte)  -- 0xE8 ADD SP,e (R214)
  | ldIndNN_A (nn : Word)  -- 0xEA LD (nn),A (R121)
  | xor_n (n : Byte)  -- 0xEE XOR n (R178)
  | ldhA_IndN (n : Byte)  -- 0xF0 LDH A,(n) (R122)
  | or_n (n : Byte)  -- 0xF6 OR n (R181)
  | ldHL_SPe (e : Byte)  -- 0xF8 LD HL,SP+e (R144)
  | ldA_IndNN (nn : Word)  -- 0xFA LD A,(nn) (R120)
  | cp_n (n : Byte)  -- 0xFE CP n (R184)
  | nop  -- 0x00 NOP (R281)
  | ldIndBC_A  -- 0x02 LD (BC),A (R118)
  | incBC  -- 0x03 INC BC (R212)
  | incB  -- 0x04 INC B (R185)
  | decB  -- 0x05 DEC B (R187)
  | rlca  -- 0x07 RLCA (R221)
  | addHL_BC  -- 0x09 ADD HL,BC (R211)
  | ldA_IndBC  -- 0x0A LD A,(BC) (R116)
  | decBC  -- 0x0B DEC BC (R213)
  | incC  -- 0x0C INC C (R185)
  | decC  -- 0x0D DEC C (R187)
  | rrca  -- 0x0F RRCA (R222)
  | stop  -- 0x10 STOP (R283)
  | ldIndDE_A  -- 0x12 LD (DE),A (R119)
  | incDE  -- 0x13 INC DE (R212)
  | incD  -- 0x14 INC D (R185)
  | decD  -- 0x15 DEC D (R187)
  | rla  -- 0x17 RLA (R223)
  | addHL_DE  -- 0x19 ADD HL,DE (R211)
  | ldA_IndDE  -- 0x1A LD A,(DE) (R117)
  | decDE  -- 0x1B DEC DE (R213)
  | incE  -- 0x1C INC E (R185)
  | decE  -- 0x1D DEC E (R187)
  | rra  -- 0x1F RRA (R224)
  | ldIndHLInc_A  -- 0x22 LD (HL+),A (R126)
  | incHL  -- 0x23 INC HL (R212)
  | incH  -- 0x24 INC H (R185)
  | decH  -- 0x25 DEC H (R187)
  | daa  -- 0x27 DAA (R189)
  | addHL_HL  -- 0x29 ADD HL,HL (R211)
  | ldA_IndHLInc  -- 0x2A LD A,(HL+) (R127)
  | decHL  -- 0x2B DEC HL (R213)
  | incL  -- 0x2C INC L (R185)
  | decL  -- 0x2D DEC L (R187)
  | cpl  -- 0x2F CPL (R190)
  | ldIndHLDec_A  -- 0x32 LD (HL-),A (R128)
  | incSP  -- 0x33 INC SP (R212)
  | incIndHL  -- 0x34 INC (HL) (R186)
  | decIndHL  -- 0x35 DEC (HL) (R188)
  | scf  -- 0x37 SCF (R191)
  | addHL_SP  -- 0x39 ADD HL,SP (R211)
  | ldA_IndHLDec  -- 0x3A LD A,(HL-) (R129)
  | decSP  -- 0x3B DEC SP (R213)
  | incA  -- 0x3C INC A (R185)
  | decA  -- 0x3D DEC A (R187)
  | ccf  -- 0x3F CCF (R192)
  | ldB_B  -- 0x40 LD B,B (R111)
  | ldB_C  -- 0x41 LD B,C (R111)
  | ldB_D  -- 0x42 LD B,D (R111)
  | ldB_E  -- 0x43 LD B,E (R111)
  | ldB_H  -- 0x44 LD B,H (R111)
  | ldB_L  -- 0x45 LD B,L (R111)
  | ldB_IndHL  -- 0x46 LD B,(HL) (R113)
  | ldB_A  -- 0x47 LD B,A (R111)
  | ldC_B  -- 0x48 LD C,B (R111)
  | ldC_C  -- 0x49 LD C,C (R111)
  | ldC_D  -- 0x4A LD C,D (R111)
  | ldC_E  -- 0x4B LD C,E (R111)
  | ldC_H  -- 0x4C LD C,H (R111)
  | ldC_L  -- 0x4D LD C,L (R111)
  | ldC_IndHL  -- 0x4E LD C,(HL) (R113)
  | ldC_A  -- 0x4F LD C,A (R111)
  | ldD_B  -- 0x50 LD D,B (R111)
  | ldD_C  -- 0x51 LD D,C (R111)
  | ldD_D  -- 0x52 LD D,D (R111)
  | ldD_E  -- 0x53 LD D,E (R111)
  | ldD_H  -- 0x54 LD D,H (R111)
  | ldD_L  -- 0x55 LD D,L (R111)
  | ldD_IndHL  -- 0x56 LD D,(HL) (R113)
  | ldD_A  -- 0x57 LD D,A (R111)
  | ldE_B  -- 0x58 LD E,B (R111)
  | ldE_C  -- 0x59 LD E,C (R111)
  | ldE_D  -- 0x5A LD E,D (R111)
  | ldE_E  -- 0x5B LD E,E (R111)
  | ldE_H  -- 0x5C LD E,H (R111)
  | ldE_L  -- 0x5D LD E,L (R111)
  | ldE_IndHL  -- 0x5E LD E,(HL) (R113)
  | ldE_A  -- 0x5F LD E,A (R111)
  | ldH_B  -- 0x60 LD H,B (R111)
  | ldH_C  -- 0x61 LD H,C (R111)
  | ldH_D  -- 0x62 LD H,D (R111)
  | ldH_E  -- 0x63 LD H,E (R111)
  | ldH_H  -- 0x64 LD H,H (R111)
  | ldH_L  -- 0x65 LD H,L (R111)
  | ldH_IndHL  -- 0x66 LD H,(HL) (R113)
  | ldH_A  -- 0x67 LD H,A (R111)
  | ldL_B  -- 0x68 LD L,B (R111)
  | ldL_C  -- 0x69 LD L,C (R111)
  | ldL_D  -- 0x6A LD L,D (R111)
  | ldL_E  -- 0x6B LD L,E (R111)
  | ldL_H  -- 0x6C LD L,H (R111)
  | ldL_L  -- 0x6D LD L,L (R111)
  | ldL_IndHL  -- 0x6E LD L,(HL) (R113)
  | ldL_A  -- 0x6F LD L,A (R111)
  | ldIndHL_B  -- 0x70 LD (HL),B (R114)
  | ldIndHL_C  -- 0x71 LD (HL),C (R114)
  | ldIndHL_D  -- 0x72 LD (HL),D (R114)
  | ldIndHL_E  -- 0x73 LD (HL),E (R114)
  | ldIndHL_H  -- 0x74 LD (HL),H (R114)
  | ldIndHL_L  -- 0x75 LD (HL),L (R114)
  | halt  -- 0x76 HALT (R282)
  | ldIndHL_A  -- 0x77 LD (HL),A (R114)
  | ldA_B  -- 0x78 LD A,B (R111)
  | ldA_C  -- 0x79 LD A,C (R111)
  | ldA_D  -- 0x7A LD A,D (R111)
  | ldA_E  -- 0x7B LD A,E (R111)
  | ldA_H  -- 0x7C LD A,H (R111)
  | ldA_L  -- 0x7D LD A,L (R111)
  | ldA_IndHL  -- 0x7E LD A,(HL) (R113)
  | ldA_A  -- 0x7F LD A,A (R111)
  | addA_B  -- 0x80 ADD A,B (R161)
  | addA_C  -- 0x81 ADD A,C (R161)
  | addA_D  -- 0x82 ADD A,D (R161)
  | addA_E  -- 0x83 ADD A,E (R161)
  | addA_H  -- 0x84 ADD A,H (R161)
  | addA_L  -- 0x85 ADD A,L (R161)
  | addA_IndHL  -- 0x86 ADD A,(HL) (R162)
  | addA_A  -- 0x87 ADD A,A (R161)
  | adcA_B  -- 0x88 ADC A,B (R164)
  | adcA_C  -- 0x89 ADC A,C (R164)
  | adcA_D  -- 0x8A ADC A,D (R164)
  | adcA_E  -- 0x8B ADC A,E (R164)
  | adcA_H  -- 0x8C ADC A,H (R164)
  | adcA_L  -- 0x8D ADC A,L (R164)
  | adcA_IndHL  -- 0x8E ADC A,(HL) (R165)
  | adcA_A  -- 0x8F ADC A,A (R164)
  | subB  -- 0x90 SUB B (R167)
  | subC  -- 0x91 SUB C (R167)
  | subD  -- 0x92 SUB D (R167)
  | subE  -- 0x93 SUB E (R167)
  | subH  -- 0x94 SUB H (R167)
  | subL  -- 0x95 SUB L (R167)
  | subIndHL  -- 0x96 SUB (HL) (R168)
  | subA  -- 0x97 SUB A (R167)
  | sbcA_B  -- 0x98 SBC A,B (R170)
  | sbcA_C  -- 0x99 SBC A,C (R170)
  | sbcA_D  -- 0x9A SBC A,D (R170)
  | sbcA_E  -- 0x9B SBC A,E (R170)
  | sbcA_H  -- 0x9C SBC A,H (R170)
  | sbcA_L  -- 0x9D SBC A,L (R170)
  | sbcA_IndHL  -- 0x9E SBC A,(HL) (R171)
  | sbcA_A  -- 0x9F SBC A,A (R170)
  | andB  -- 0xA0 AND B (R173)
  | andC  -- 0xA1 AND C (R173)
  | andD  -- 0xA2 AND D (R173)
  | andE  -- 0xA3 AND E (R173)
  | andH  -- 0xA4 AND H (R173)
  | andL  -- 0xA5 AND L (R173)
  | andIndHL  -- 0xA6 AND (HL) (R174)
  | andA  -- 0xA7 AND A (R173)
  | xorB  -- 0xA8 XOR B (R176)
  | xorC  -- 0xA9 XOR C (R176)
  | xorD  -- 0xAA XOR D (R176)
  | xorE  -- 0xAB XOR E (R176)
  | xorH  -- 0xAC XOR H (R176)
  | xorL  -- 0xAD XOR L (R176)
  | xorIndHL  -- 0xAE XOR (HL) (R177)
  | xorA  -- 0xAF XOR A (R176)
  | orB  -- 0xB0 OR B (R179)
  | orC  -- 0xB1 OR C (R179)
  | orD  -- 0xB2 OR D (R179)
  | orE  -- 0xB3 OR E (R179)
  | orH  -- 0xB4 OR H (R179)
  | orL  -- 0xB5 OR L (R179)
  | orIndHL  -- 0xB6 OR (HL) (R180)
  | orA  -- 0xB7 OR A (R179)
  | cpB  -- 0xB8 CP B (R182)
  | cpC  -- 0xB9 CP C (R182)
  | cpD  -- 0xBA CP D (R182)
  | cpE  -- 0xBB CP E (R182)
  | cpH  -- 0xBC CP H (R182)
  | cpL  -- 0xBD CP L (R182)
  | cpIndHL  -- 0xBE CP (HL) (R183)
  | cpA  -- 0xBF CP A (R182)
  | retNZ  -- 0xC0 RET NZ (R269)
  | popBC  -- 0xC1 POP BC (R147)
  | pushBC  -- 0xC5 PUSH BC (R145)
  | rst00  -- 0xC7 RST 0x00 (R271)
  | retZ  -- 0xC8 RET Z (R269)
  | ret  -- 0xC9 RET (R268)
  | prefixCB  -- 0xCB PREFIX CB (R287)
  | rst08  -- 0xCF RST 0x08 (R271)
  | retNC  -- 0xD0 RET NC (R269)
  | popDE  -- 0xD1 POP DE (R147)
  | undefD3  -- 0xD3 UNDEF_D3 (R286)
  | pushDE  -- 0xD5 PUSH DE (R145)
  | rst10  -- 0xD7 RST 0x10 (R271)
  | retC  -- 0xD8 RET C (R269)
  | reti  -- 0xD9 RETI (R270)
  | undefDB  -- 0xDB UNDEF_DB (R286)
  | undefDD  -- 0xDD UNDEF_DD (R286)
  | rst18  -- 0xDF RST 0x18 (R271)
  | popHL  -- 0xE1 POP HL (R147)
  | ldIndC_A  -- 0xE2 LD (C),A (R125)
  | undefE3  -- 0xE3 UNDEF_E3 (R286)
  | undefE4  -- 0xE4 UNDEF_E4 (R286)
  | pushHL  -- 0xE5 PUSH HL (R145)
  | rst20  -- 0xE7 RST 0x20 (R271)
  | jpIndHL  -- 0xE9 JP (HL) (R263)
  | undefEB  -- 0xEB UNDEF_EB (R286)
  | undefEC  -- 0xEC UNDEF_EC (R286)
  | undefED  -- 0xED UNDEF_ED (R286)
  | rst28  -- 0xEF RST 0x28 (R271)
  | popAF  -- 0xF1 POP AF (R148)
  | ldA_IndC  -- 0xF2 LD A,(C) (R124)
  | di  -- 0xF3 DI (R284)
  | undefF4  -- 0xF4 UNDEF_F4 (R286)
  | pushAF  -- 0xF5 PUSH AF (R146)
  | rst30  -- 0xF7 RST 0x30 (R271)
  | ldSP_HL  -- 0xF9 LD SP,HL (R143)
  | ei  -- 0xFB EI (R285)
  | undefFC  -- 0xFC UNDEF_FC (R286)
  | undefFD  -- 0xFD UNDEF_FD (R286)
  | rst38  -- 0xFF RST 0x38 (R271)
  | rlcB  -- CB 00 RLC B (R225)
  | rlcC  -- CB 01 RLC C (R225)
  | rlcD  -- CB 02 RLC D (R225)
  | rlcE  -- CB 03 RLC E (R225)
  | rlcH  -- CB 04 RLC H (R225)
  | rlcL  -- CB 05 RLC L (R225)
  | rlcIndHL  -- CB 06 RLC (HL) (R226)
  | rlcA  -- CB 07 RLC A (R225)
  | rrcB  -- CB 08 RRC B (R227)
  | rrcC  -- CB 09 RRC C (R227)
  | rrcD  -- CB 0A RRC D (R227)
  | rrcE  -- CB 0B RRC E (R227)
  | rrcH  -- CB 0C RRC H (R227)
  | rrcL  -- CB 0D RRC L (R227)
  | rrcIndHL  -- CB 0E RRC (HL) (R228)
  | rrcA  -- CB 0F RRC A (R227)
  | rlB  -- CB 10 RL B (R229)
  | rlC  -- CB 11 RL C (R229)
  | rlD  -- CB 12 RL D (R229)
  | rlE  -- CB 13 RL E (R229)
  | rlH  -- CB 14 RL H (R229)
  | rlL  -- CB 15 RL L (R229)
  | rlIndHL  -- CB 16 RL (HL) (R230)
  | rlA  -- CB 17 RL A (R229)
  | rrB  -- CB 18 RR B (R231)
  | rrC  -- CB 19 RR C (R231)
  | rrD  -- CB 1A RR D (R231)
  | rrE  -- CB 1B RR E (R231)
  | rrH  -- CB 1C RR H (R231)
  | rrL  -- CB 1D RR L (R231)
  | rrIndHL  -- CB 1E RR (HL) (R232)
  | rrA  -- CB 1F RR A (R231)
  | slaB  -- CB 20 SLA B (R233)
  | slaC  -- CB 21 SLA C (R233)
  | slaD  -- CB 22 SLA D (R233)
  | slaE  -- CB 23 SLA E (R233)
  | slaH  -- CB 24 SLA H (R233)
  | slaL  -- CB 25 SLA L (R233)
  | slaIndHL  -- CB 26 SLA (HL) (R234)
  | slaA  -- CB 27 SLA A (R233)
  | sraB  -- CB 28 SRA B (R235)
  | sraC  -- CB 29 SRA C (R235)
  | sraD  -- CB 2A SRA D (R235)
  | sraE  -- CB 2B SRA E (R235)
  | sraH  -- CB 2C SRA H (R235)
  | sraL  -- CB 2D SRA L (R235)
  | sraIndHL  -- CB 2E SRA (HL) (R236)
  | sraA  -- CB 2F SRA A (R235)
  | swapB  -- CB 30 SWAP B (R237)
  | swapC  -- CB 31 SWAP C (R237)
  | swapD  -- CB 32 SWAP D (R237)
  | swapE  -- CB 33 SWAP E (R237)
  | swapH  -- CB 34 SWAP H (R237)
  | swapL  -- CB 35 SWAP L (R237)
  | swapIndHL  -- CB 36 SWAP (HL) (R238)
  | swapA  -- CB 37 SWAP A (R237)
  | srlB  -- CB 38 SRL B (R239)
  | srlC  -- CB 39 SRL C (R239)
  | srlD  -- CB 3A SRL D (R239)
  | srlE  -- CB 3B SRL E (R239)
  | srlH  -- CB 3C SRL H (R239)
  | srlL  -- CB 3D SRL L (R239)
  | srlIndHL  -- CB 3E SRL (HL) (R240)
  | srlA  -- CB 3F SRL A (R239)
  | bit0_B  -- CB 40 BIT 0,B (R251)
  | bit0_C  -- CB 41 BIT 0,C (R251)
  | bit0_D  -- CB 42 BIT 0,D (R251)
  | bit0_E  -- CB 43 BIT 0,E (R251)
  | bit0_H  -- CB 44 BIT 0,H (R251)
  | bit0_L  -- CB 45 BIT 0,L (R251)
  | bit0_IndHL  -- CB 46 BIT 0,(HL) (R252)
  | bit0_A  -- CB 47 BIT 0,A (R251)
  | bit1_B  -- CB 48 BIT 1,B (R251)
  | bit1_C  -- CB 49 BIT 1,C (R251)
  | bit1_D  -- CB 4A BIT 1,D (R251)
  | bit1_E  -- CB 4B BIT 1,E (R251)
  | bit1_H  -- CB 4C BIT 1,H (R251)
  | bit1_L  -- CB 4D BIT 1,L (R251)
  | bit1_IndHL  -- CB 4E BIT 1,(HL) (R252)
  | bit1_A  -- CB 4F BIT 1,A (R251)
  | bit2_B  -- CB 50 BIT 2,B (R251)
  | bit2_C  -- CB 51 BIT 2,C (R251)
  | bit2_D  -- CB 52 BIT 2,D (R251)
  | bit2_E  -- CB 53 BIT 2,E (R251)
  | bit2_H  -- CB 54 BIT 2,H (R251)
  | bit2_L  -- CB 55 BIT 2,L (R251)
  | bit2_IndHL  -- CB 56 BIT 2,(HL) (R252)
  | bit2_A  -- CB 57 BIT 2,A (R251)
  | bit3_B  -- CB 58 BIT 3,B (R251)
  | bit3_C  -- CB 59 BIT 3,C (R251)
  | bit3_D  -- CB 5A BIT 3,D (R251)
  | bit3_E  -- CB 5B BIT 3,E (R251)
  | bit3_H  -- CB 5C BIT 3,H (R251)
  | bit3_L  -- CB 5D BIT 3,L (R251)
  | bit3_IndHL  -- CB 5E BIT 3,(HL) (R252)
  | bit3_A  -- CB 5F BIT 3,A (R251)
  | bit4_B  -- CB 60 BIT 4,B (R251)
  | bit4_C  -- CB 61 BIT 4,C (R251)
  | bit4_D  -- CB 62 BIT 4,D (R251)
  | bit4_E  -- CB 63 BIT 4,E (R251)
  | bit4_H  -- CB 64 BIT 4,H (R251)
  | bit4_L  -- CB 65 BIT 4,L (R251)
  | bit4_IndHL  -- CB 66 BIT 4,(HL) (R252)
  | bit4_A  -- CB 67 BIT 4,A (R251)
  | bit5_B  -- CB 68 BIT 5,B (R251)
  | bit5_C  -- CB 69 BIT 5,C (R251)
  | bit5_D  -- CB 6A BIT 5,D (R251)
  | bit5_E  -- CB 6B BIT 5,E (R251)
  | bit5_H  -- CB 6C BIT 5,H (R251)
  | bit5_L  -- CB 6D BIT 5,L (R251)
  | bit5_IndHL  -- CB 6E BIT 5,(HL) (R252)
  | bit5_A  -- CB 6F BIT 5,A (R251)
  | bit6_B  -- CB 70 BIT 6,B (R251)
  | bit6_C  -- CB 71 BIT 6,C (R251)
  | bit6_D  -- CB 72 BIT 6,D (R251)
  | bit6_E  -- CB 73 BIT 6,E (R251)
  | bit6_H  -- CB 74 BIT 6,H (R251)
  | bit6_L  -- CB 75 BIT 6,L (R251)
  | bit6_IndHL  -- CB 76 BIT 6,(HL) (R252)
  | bit6_A  -- CB 77 BIT 6,A (R251)
  | bit7_B  -- CB 78 BIT 7,B (R251)
  | bit7_C  -- CB 79 BIT 7,C (R251)
  | bit7_D  -- CB 7A BIT 7,D (R251)
  | bit7_E  -- CB 7B BIT 7,E (R251)
  | bit7_H  -- CB 7C BIT 7,H (R251)
  | bit7_L  -- CB 7D BIT 7,L (R251)
  | bit7_IndHL  -- CB 7E BIT 7,(HL) (R252)
  | bit7_A  -- CB 7F BIT 7,A (R251)
  | res0_B  -- CB 80 RES 0,B (R253)
  | res0_C  -- CB 81 RES 0,C (R253)
  | res0_D  -- CB 82 RES 0,D (R253)
  | res0_E  -- CB 83 RES 0,E (R253)
  | res0_H  -- CB 84 RES 0,H (R253)
  | res0_L  -- CB 85 RES 0,L (R253)
  | res0_IndHL  -- CB 86 RES 0,(HL) (R254)
  | res0_A  -- CB 87 RES 0,A (R253)
  | res1_B  -- CB 88 RES 1,B (R253)
  | res1_C  -- CB 89 RES 1,C (R253)
  | res1_D  -- CB 8A RES 1,D (R253)
  | res1_E  -- CB 8B RES 1,E (R253)
  | res1_H  -- CB 8C RES 1,H (R253)
  | res1_L  -- CB 8D RES 1,L (R253)
  | res1_IndHL  -- CB 8E RES 1,(HL) (R254)
  | res1_A  -- CB 8F RES 1,A (R253)
  | res2_B  -- CB 90 RES 2,B (R253)
  | res2_C  -- CB 91 RES 2,C (R253)
  | res2_D  -- CB 92 RES 2,D (R253)
  | res2_E  -- CB 93 RES 2,E (R253)
  | res2_H  -- CB 94 RES 2,H (R253)
  | res2_L  -- CB 95 RES 2,L (R253)
  | res2_IndHL  -- CB 96 RES 2,(HL) (R254)
  | res2_A  -- CB 97 RES 2,A (R253)
  | res3_B  -- CB 98 RES 3,B (R253)
  | res3_C  -- CB 99 RES 3,C (R253)
  | res3_D  -- CB 9A RES 3,D (R253)
  | res3_E  -- CB 9B RES 3,E (R253)
  | res3_H  -- CB 9C RES 3,H (R253)
  | res3_L  -- CB 9D RES 3,L (R253)
  | res3_IndHL  -- CB 9E RES 3,(HL) (R254)
  | res3_A  -- CB 9F RES 3,A (R253)
  | res4_B  -- CB A0 RES 4,B (R253)
  | res4_C  -- CB A1 RES 4,C (R253)
  | res4_D  -- CB A2 RES 4,D (R253)
  | res4_E  -- CB A3 RES 4,E (R253)
  | res4_H  -- CB A4 RES 4,H (R253)
  | res4_L  -- CB A5 RES 4,L (R253)
  | res4_IndHL  -- CB A6 RES 4,(HL) (R254)
  | res4_A  -- CB A7 RES 4,A (R253)
  | res5_B  -- CB A8 RES 5,B (R253)
  | res5_C  -- CB A9 RES 5,C (R253)
  | res5_D  -- CB AA RES 5,D (R253)
  | res5_E  -- CB AB RES 5,E (R253)
  | res5_H  -- CB AC RES 5,H (R253)
  | res5_L  -- CB AD RES 5,L (R253)
  | res5_IndHL  -- CB AE RES 5,(HL) (R254)
  | res5_A  -- CB AF RES 5,A (R253)
  | res6_B  -- CB B0 RES 6,B (R253)
  | res6_C  -- CB B1 RES 6,C (R253)
  | res6_D  -- CB B2 RES 6,D (R253)
  | res6_E  -- CB B3 RES 6,E (R253)
  | res6_H  -- CB B4 RES 6,H (R253)
  | res6_L  -- CB B5 RES 6,L (R253)
  | res6_IndHL  -- CB B6 RES 6,(HL) (R254)
  | res6_A  -- CB B7 RES 6,A (R253)
  | res7_B  -- CB B8 RES 7,B (R253)
  | res7_C  -- CB B9 RES 7,C (R253)
  | res7_D  -- CB BA RES 7,D (R253)
  | res7_E  -- CB BB RES 7,E (R253)
  | res7_H  -- CB BC RES 7,H (R253)
  | res7_L  -- CB BD RES 7,L (R253)
  | res7_IndHL  -- CB BE RES 7,(HL) (R254)
  | res7_A  -- CB BF RES 7,A (R253)
  | set0_B  -- CB C0 SET 0,B (R255)
  | set0_C  -- CB C1 SET 0,C (R255)
  | set0_D  -- CB C2 SET 0,D (R255)
  | set0_E  -- CB C3 SET 0,E (R255)
  | set0_H  -- CB C4 SET 0,H (R255)
  | set0_L  -- CB C5 SET 0,L (R255)
  | set0_IndHL  -- CB C6 SET 0,(HL) (R256)
  | set0_A  -- CB C7 SET 0,A (R255)
  | set1_B  -- CB C8 SET 1,B (R255)
  | set1_C  -- CB C9 SET 1,C (R255)
  | set1_D  -- CB CA SET 1,D (R255)
  | set1_E  -- CB CB SET 1,E (R255)
  | set1_H  -- CB CC SET 1,H (R255)
  | set1_L  -- CB CD SET 1,L (R255)
  | set1_IndHL  -- CB CE SET 1,(HL) (R256)
  | set1_A  -- CB CF SET 1,A (R255)
  | set2_B  -- CB D0 SET 2,B (R255)
  | set2_C  -- CB D1 SET 2,C (R255)
  | set2_D  -- CB D2 SET 2,D (R255)
  | set2_E  -- CB D3 SET 2,E (R255)
  | set2_H  -- CB D4 SET 2,H (R255)
  | set2_L  -- CB D5 SET 2,L (R255)
  | set2_IndHL  -- CB D6 SET 2,(HL) (R256)
  | set2_A  -- CB D7 SET 2,A (R255)
  | set3_B  -- CB D8 SET 3,B (R255)
  | set3_C  -- CB D9 SET 3,C (R255)
  | set3_D  -- CB DA SET 3,D (R255)
  | set3_E  -- CB DB SET 3,E (R255)
  | set3_H  -- CB DC SET 3,H (R255)
  | set3_L  -- CB DD SET 3,L (R255)
  | set3_IndHL  -- CB DE SET 3,(HL) (R256)
  | set3_A  -- CB DF SET 3,A (R255)
  | set4_B  -- CB E0 SET 4,B (R255)
  | set4_C  -- CB E1 SET 4,C (R255)
  | set4_D  -- CB E2 SET 4,D (R255)
  | set4_E  -- CB E3 SET 4,E (R255)
  | set4_H  -- CB E4 SET 4,H (R255)
  | set4_L  -- CB E5 SET 4,L (R255)
  | set4_IndHL  -- CB E6 SET 4,(HL) (R256)
  | set4_A  -- CB E7 SET 4,A (R255)
  | set5_B  -- CB E8 SET 5,B (R255)
  | set5_C  -- CB E9 SET 5,C (R255)
  | set5_D  -- CB EA SET 5,D (R255)
  | set5_E  -- CB EB SET 5,E (R255)
  | set5_H  -- CB EC SET 5,H (R255)
  | set5_L  -- CB ED SET 5,L (R255)
  | set5_IndHL  -- CB EE SET 5,(HL) (R256)
  | set5_A  -- CB EF SET 5,A (R255)
  | set6_B  -- CB F0 SET 6,B (R255)
  | set6_C  -- CB F1 SET 6,C (R255)
  | set6_D  -- CB F2 SET 6,D (R255)
  | set6_E  -- CB F3 SET 6,E (R255)
  | set6_H  -- CB F4 SET 6,H (R255)
  | set6_L  -- CB F5 SET 6,L (R255)
  | set6_IndHL  -- CB F6 SET 6,(HL) (R256)
  | set6_A  -- CB F7 SET 6,A (R255)
  | set7_B  -- CB F8 SET 7,B (R255)
  | set7_C  -- CB F9 SET 7,C (R255)
  | set7_D  -- CB FA SET 7,D (R255)
  | set7_E  -- CB FB SET 7,E (R255)
  | set7_H  -- CB FC SET 7,H (R255)
  | set7_L  -- CB FD SET 7,L (R255)
  | set7_IndHL  -- CB FE SET 7,(HL) (R256)
  | set7_A  -- CB FF SET 7,A (R255)
  deriving DecidableEq, Repr

end Sys2Proof
end

