-- ==== Sys2Proof/Decode.lean ====
section
/-! DEFINITION. Instruction encoding (spec/30_encoding.md): the fields of an opcode byte, the decoder written from the
decode rules R91 to R94 and R97, the lengths (R80, R81, R96), and after it the encoder written from the opcode numbers of
spec/opcode_table.json (R103). The decoder and the encoder are two independent renderings of the opcode map. -/

namespace Sys2Proof

/-! ### Byte order and bit fields -/

/-- The word with the given high and low byte (R9: concatenation, the first argument more significant). -/
def wordOf (hi lo : Byte) : Word := hi ++ lo

/-- The high byte of a word (R9). -/
def hi8 (w : Word) : Byte := w.extractLsb' 8 8

/-- The low byte of a word (R9). -/
def lo8 (w : Word) : Byte := w.extractLsb' 0 8

/-- Field x of an opcode byte: bits 7 and 6 (R82). -/
def fieldX (op : Byte) : Fin 4 := (op.extractLsb' 6 2).toFin

/-- Field y of an opcode byte: bits 5 to 3 (R82). -/
def fieldY (op : Byte) : Fin 8 := (op.extractLsb' 3 3).toFin

/-- Field z of an opcode byte: bits 2 to 0 (R82). -/
def fieldZ (op : Byte) : Fin 8 := (op.extractLsb' 0 3).toFin

/-- Field p of an opcode byte: bits 5 and 4 (R82). -/
def fieldP (op : Byte) : Fin 4 := (op.extractLsb' 4 2).toFin

/-- Field q of an opcode byte: bit 3 (R82). -/
def fieldQ (op : Byte) : Bool := op.getLsbD 3

/-- The register field (R85). -/
def operandOf : Fin 8 → Operand8
  | 0 => .reg .b
  | 1 => .reg .c
  | 2 => .reg .d
  | 3 => .reg .e
  | 4 => .reg .h
  | 5 => .reg .l
  | 6 => .indHL
  | 7 => .reg .a

/-- The same field as the right operand of an ALU instruction (R93). -/
def sourceOf (z : Fin 8) : Source8 :=
  match operandOf z with
  | .reg r => .reg r
  | .indHL => .indHL

/-- The pair field, table rp (R86). -/
def pairOf : Fin 4 → Pair
  | 0 => .bc
  | 1 => .de
  | 2 => .hl
  | 3 => .sp

/-- The pair field, table rp2 (R86). -/
def stackPairOf : Fin 4 → StackPair
  | 0 => .bc
  | 1 => .de
  | 2 => .hl
  | 3 => .af

/-- The ALU operation field (R93). -/
def aluOf : Fin 8 → AluOp
  | 0 => .add
  | 1 => .adc
  | 2 => .sub
  | 3 => .sbc
  | 4 => .and
  | 5 => .xor
  | 6 => .or
  | 7 => .cp

/-- The rotate and shift field (R97). -/
def rotOf : Fin 8 → RotOp
  | 0 => .rlc
  | 1 => .rrc
  | 2 => .rl
  | 3 => .rr
  | 4 => .sla
  | 5 => .sra
  | 6 => .swap
  | 7 => .srl

/-! ### The families of rows that differ in an operand field only -/

/-- `LD r,r'` (R111): destination, source. -/
def Instr.ld : Reg8 → Reg8 → Instr
  | .b, .b => .ldB_B
  | .b, .c => .ldB_C
  | .b, .d => .ldB_D
  | .b, .e => .ldB_E
  | .b, .h => .ldB_H
  | .b, .l => .ldB_L
  | .b, .a => .ldB_A
  | .c, .b => .ldC_B
  | .c, .c => .ldC_C
  | .c, .d => .ldC_D
  | .c, .e => .ldC_E
  | .c, .h => .ldC_H
  | .c, .l => .ldC_L
  | .c, .a => .ldC_A
  | .d, .b => .ldD_B
  | .d, .c => .ldD_C
  | .d, .d => .ldD_D
  | .d, .e => .ldD_E
  | .d, .h => .ldD_H
  | .d, .l => .ldD_L
  | .d, .a => .ldD_A
  | .e, .b => .ldE_B
  | .e, .c => .ldE_C
  | .e, .d => .ldE_D
  | .e, .e => .ldE_E
  | .e, .h => .ldE_H
  | .e, .l => .ldE_L
  | .e, .a => .ldE_A
  | .h, .b => .ldH_B
  | .h, .c => .ldH_C
  | .h, .d => .ldH_D
  | .h, .e => .ldH_E
  | .h, .h => .ldH_H
  | .h, .l => .ldH_L
  | .h, .a => .ldH_A
  | .l, .b => .ldL_B
  | .l, .c => .ldL_C
  | .l, .d => .ldL_D
  | .l, .e => .ldL_E
  | .l, .h => .ldL_H
  | .l, .l => .ldL_L
  | .l, .a => .ldL_A
  | .a, .b => .ldA_B
  | .a, .c => .ldA_C
  | .a, .d => .ldA_D
  | .a, .e => .ldA_E
  | .a, .h => .ldA_H
  | .a, .l => .ldA_L
  | .a, .a => .ldA_A

/-- `LD r,n` (R112). -/
def Instr.ldImm : Reg8 → Byte → Instr
  | .b, n => .ldB_n n
  | .c, n => .ldC_n n
  | .d, n => .ldD_n n
  | .e, n => .ldE_n n
  | .h, n => .ldH_n n
  | .l, n => .ldL_n n
  | .a, n => .ldA_n n

/-- `LD r,(HL)` (R113). -/
def Instr.ldLoad : Reg8 → Instr
  | .b => .ldB_IndHL
  | .c => .ldC_IndHL
  | .d => .ldD_IndHL
  | .e => .ldE_IndHL
  | .h => .ldH_IndHL
  | .l => .ldL_IndHL
  | .a => .ldA_IndHL

/-- `LD (HL),r` (R114). -/
def Instr.ldStore : Reg8 → Instr
  | .b => .ldIndHL_B
  | .c => .ldIndHL_C
  | .d => .ldIndHL_D
  | .e => .ldIndHL_E
  | .h => .ldIndHL_H
  | .l => .ldIndHL_L
  | .a => .ldIndHL_A

/-- `LD rr,nn` (R141). -/
def Instr.ldPair : Pair → Word → Instr
  | .bc, nn => .ldBC_nn nn
  | .de, nn => .ldDE_nn nn
  | .hl, nn => .ldHL_nn nn
  | .sp, nn => .ldSP_nn nn

/-- `PUSH rr` and `PUSH AF` (R145, R146). -/
def Instr.push : StackPair → Instr
  | .bc => .pushBC
  | .de => .pushDE
  | .hl => .pushHL
  | .af => .pushAF

/-- `POP rr` and `POP AF` (R147, R148). -/
def Instr.pop : StackPair → Instr
  | .bc => .popBC
  | .de => .popDE
  | .hl => .popHL
  | .af => .popAF

/-- The 8-bit ALU instructions, each with r, (HL) and n (R161 to R184). -/
def Instr.alu : AluOp → Source8 → Instr
  | .add, .reg .b => .addA_B
  | .add, .reg .c => .addA_C
  | .add, .reg .d => .addA_D
  | .add, .reg .e => .addA_E
  | .add, .reg .h => .addA_H
  | .add, .reg .l => .addA_L
  | .add, .reg .a => .addA_A
  | .add, .indHL => .addA_IndHL
  | .add, .imm n => .addA_n n
  | .adc, .reg .b => .adcA_B
  | .adc, .reg .c => .adcA_C
  | .adc, .reg .d => .adcA_D
  | .adc, .reg .e => .adcA_E
  | .adc, .reg .h => .adcA_H
  | .adc, .reg .l => .adcA_L
  | .adc, .reg .a => .adcA_A
  | .adc, .indHL => .adcA_IndHL
  | .adc, .imm n => .adcA_n n
  | .sub, .reg .b => .subB
  | .sub, .reg .c => .subC
  | .sub, .reg .d => .subD
  | .sub, .reg .e => .subE
  | .sub, .reg .h => .subH
  | .sub, .reg .l => .subL
  | .sub, .reg .a => .subA
  | .sub, .indHL => .subIndHL
  | .sub, .imm n => .sub_n n
  | .sbc, .reg .b => .sbcA_B
  | .sbc, .reg .c => .sbcA_C
  | .sbc, .reg .d => .sbcA_D
  | .sbc, .reg .e => .sbcA_E
  | .sbc, .reg .h => .sbcA_H
  | .sbc, .reg .l => .sbcA_L
  | .sbc, .reg .a => .sbcA_A
  | .sbc, .indHL => .sbcA_IndHL
  | .sbc, .imm n => .sbcA_n n
  | .and, .reg .b => .andB
  | .and, .reg .c => .andC
  | .and, .reg .d => .andD
  | .and, .reg .e => .andE
  | .and, .reg .h => .andH
  | .and, .reg .l => .andL
  | .and, .reg .a => .andA
  | .and, .indHL => .andIndHL
  | .and, .imm n => .and_n n
  | .xor, .reg .b => .xorB
  | .xor, .reg .c => .xorC
  | .xor, .reg .d => .xorD
  | .xor, .reg .e => .xorE
  | .xor, .reg .h => .xorH
  | .xor, .reg .l => .xorL
  | .xor, .reg .a => .xorA
  | .xor, .indHL => .xorIndHL
  | .xor, .imm n => .xor_n n
  | .or, .reg .b => .orB
  | .or, .reg .c => .orC
  | .or, .reg .d => .orD
  | .or, .reg .e => .orE
  | .or, .reg .h => .orH
  | .or, .reg .l => .orL
  | .or, .reg .a => .orA
  | .or, .indHL => .orIndHL
  | .or, .imm n => .or_n n
  | .cp, .reg .b => .cpB
  | .cp, .reg .c => .cpC
  | .cp, .reg .d => .cpD
  | .cp, .reg .e => .cpE
  | .cp, .reg .h => .cpH
  | .cp, .reg .l => .cpL
  | .cp, .reg .a => .cpA
  | .cp, .indHL => .cpIndHL
  | .cp, .imm n => .cp_n n

/-- `INC r` and `INC (HL)` (R185, R186). -/
def Instr.inc : Operand8 → Instr
  | .reg .b => .incB
  | .reg .c => .incC
  | .reg .d => .incD
  | .reg .e => .incE
  | .reg .h => .incH
  | .reg .l => .incL
  | .reg .a => .incA
  | .indHL => .incIndHL

/-- `DEC r` and `DEC (HL)` (R187, R188). -/
def Instr.dec : Operand8 → Instr
  | .reg .b => .decB
  | .reg .c => .decC
  | .reg .d => .decD
  | .reg .e => .decE
  | .reg .h => .decH
  | .reg .l => .decL
  | .reg .a => .decA
  | .indHL => .decIndHL

/-- `ADD HL,rr` (R211). -/
def Instr.addHL : Pair → Instr
  | .bc => .addHL_BC
  | .de => .addHL_DE
  | .hl => .addHL_HL
  | .sp => .addHL_SP

/-- `INC rr` (R212). -/
def Instr.incPair : Pair → Instr
  | .bc => .incBC
  | .de => .incDE
  | .hl => .incHL
  | .sp => .incSP

/-- `DEC rr` (R213). -/
def Instr.decPair : Pair → Instr
  | .bc => .decBC
  | .de => .decDE
  | .hl => .decHL
  | .sp => .decSP

/-- The CB-prefixed rotates and shifts on r and (HL) (R225 to R240). -/
def Instr.rot : RotOp → Operand8 → Instr
  | .rlc, .reg .b => .rlcB
  | .rlc, .reg .c => .rlcC
  | .rlc, .reg .d => .rlcD
  | .rlc, .reg .e => .rlcE
  | .rlc, .reg .h => .rlcH
  | .rlc, .reg .l => .rlcL
  | .rlc, .reg .a => .rlcA
  | .rlc, .indHL => .rlcIndHL
  | .rrc, .reg .b => .rrcB
  | .rrc, .reg .c => .rrcC
  | .rrc, .reg .d => .rrcD
  | .rrc, .reg .e => .rrcE
  | .rrc, .reg .h => .rrcH
  | .rrc, .reg .l => .rrcL
  | .rrc, .reg .a => .rrcA
  | .rrc, .indHL => .rrcIndHL
  | .rl, .reg .b => .rlB
  | .rl, .reg .c => .rlC
  | .rl, .reg .d => .rlD
  | .rl, .reg .e => .rlE
  | .rl, .reg .h => .rlH
  | .rl, .reg .l => .rlL
  | .rl, .reg .a => .rlA
  | .rl, .indHL => .rlIndHL
  | .rr, .reg .b => .rrB
  | .rr, .reg .c => .rrC
  | .rr, .reg .d => .rrD
  | .rr, .reg .e => .rrE
  | .rr, .reg .h => .rrH
  | .rr, .reg .l => .rrL
  | .rr, .reg .a => .rrA
  | .rr, .indHL => .rrIndHL
  | .sla, .reg .b => .slaB
  | .sla, .reg .c => .slaC
  | .sla, .reg .d => .slaD
  | .sla, .reg .e => .slaE
  | .sla, .reg .h => .slaH
  | .sla, .reg .l => .slaL
  | .sla, .reg .a => .slaA
  | .sla, .indHL => .slaIndHL
  | .sra, .reg .b => .sraB
  | .sra, .reg .c => .sraC
  | .sra, .reg .d => .sraD
  | .sra, .reg .e => .sraE
  | .sra, .reg .h => .sraH
  | .sra, .reg .l => .sraL
  | .sra, .reg .a => .sraA
  | .sra, .indHL => .sraIndHL
  | .swap, .reg .b => .swapB
  | .swap, .reg .c => .swapC
  | .swap, .reg .d => .swapD
  | .swap, .reg .e => .swapE
  | .swap, .reg .h => .swapH
  | .swap, .reg .l => .swapL
  | .swap, .reg .a => .swapA
  | .swap, .indHL => .swapIndHL
  | .srl, .reg .b => .srlB
  | .srl, .reg .c => .srlC
  | .srl, .reg .d => .srlD
  | .srl, .reg .e => .srlE
  | .srl, .reg .h => .srlH
  | .srl, .reg .l => .srlL
  | .srl, .reg .a => .srlA
  | .srl, .indHL => .srlIndHL

/-- `BIT b,r` and `BIT b,(HL)` (R251, R252). -/
def Instr.bit : Fin 8 → Operand8 → Instr
  | 0, .reg .b => .bit0_B
  | 0, .reg .c => .bit0_C
  | 0, .reg .d => .bit0_D
  | 0, .reg .e => .bit0_E
  | 0, .reg .h => .bit0_H
  | 0, .reg .l => .bit0_L
  | 0, .reg .a => .bit0_A
  | 0, .indHL => .bit0_IndHL
  | 1, .reg .b => .bit1_B
  | 1, .reg .c => .bit1_C
  | 1, .reg .d => .bit1_D
  | 1, .reg .e => .bit1_E
  | 1, .reg .h => .bit1_H
  | 1, .reg .l => .bit1_L
  | 1, .reg .a => .bit1_A
  | 1, .indHL => .bit1_IndHL
  | 2, .reg .b => .bit2_B
  | 2, .reg .c => .bit2_C
  | 2, .reg .d => .bit2_D
  | 2, .reg .e => .bit2_E
  | 2, .reg .h => .bit2_H
  | 2, .reg .l => .bit2_L
  | 2, .reg .a => .bit2_A
  | 2, .indHL => .bit2_IndHL
  | 3, .reg .b => .bit3_B
  | 3, .reg .c => .bit3_C
  | 3, .reg .d => .bit3_D
  | 3, .reg .e => .bit3_E
  | 3, .reg .h => .bit3_H
  | 3, .reg .l => .bit3_L
  | 3, .reg .a => .bit3_A
  | 3, .indHL => .bit3_IndHL
  | 4, .reg .b => .bit4_B
  | 4, .reg .c => .bit4_C
  | 4, .reg .d => .bit4_D
  | 4, .reg .e => .bit4_E
  | 4, .reg .h => .bit4_H
  | 4, .reg .l => .bit4_L
  | 4, .reg .a => .bit4_A
  | 4, .indHL => .bit4_IndHL
  | 5, .reg .b => .bit5_B
  | 5, .reg .c => .bit5_C
  | 5, .reg .d => .bit5_D
  | 5, .reg .e => .bit5_E
  | 5, .reg .h => .bit5_H
  | 5, .reg .l => .bit5_L
  | 5, .reg .a => .bit5_A
  | 5, .indHL => .bit5_IndHL
  | 6, .reg .b => .bit6_B
  | 6, .reg .c => .bit6_C
  | 6, .reg .d => .bit6_D
  | 6, .reg .e => .bit6_E
  | 6, .reg .h => .bit6_H
  | 6, .reg .l => .bit6_L
  | 6, .reg .a => .bit6_A
  | 6, .indHL => .bit6_IndHL
  | 7, .reg .b => .bit7_B
  | 7, .reg .c => .bit7_C
  | 7, .reg .d => .bit7_D
  | 7, .reg .e => .bit7_E
  | 7, .reg .h => .bit7_H
  | 7, .reg .l => .bit7_L
  | 7, .reg .a => .bit7_A
  | 7, .indHL => .bit7_IndHL

/-- `RES b,r` and `RES b,(HL)` (R253, R254). -/
def Instr.res : Fin 8 → Operand8 → Instr
  | 0, .reg .b => .res0_B
  | 0, .reg .c => .res0_C
  | 0, .reg .d => .res0_D
  | 0, .reg .e => .res0_E
  | 0, .reg .h => .res0_H
  | 0, .reg .l => .res0_L
  | 0, .reg .a => .res0_A
  | 0, .indHL => .res0_IndHL
  | 1, .reg .b => .res1_B
  | 1, .reg .c => .res1_C
  | 1, .reg .d => .res1_D
  | 1, .reg .e => .res1_E
  | 1, .reg .h => .res1_H
  | 1, .reg .l => .res1_L
  | 1, .reg .a => .res1_A
  | 1, .indHL => .res1_IndHL
  | 2, .reg .b => .res2_B
  | 2, .reg .c => .res2_C
  | 2, .reg .d => .res2_D
  | 2, .reg .e => .res2_E
  | 2, .reg .h => .res2_H
  | 2, .reg .l => .res2_L
  | 2, .reg .a => .res2_A
  | 2, .indHL => .res2_IndHL
  | 3, .reg .b => .res3_B
  | 3, .reg .c => .res3_C
  | 3, .reg .d => .res3_D
  | 3, .reg .e => .res3_E
  | 3, .reg .h => .res3_H
  | 3, .reg .l => .res3_L
  | 3, .reg .a => .res3_A
  | 3, .indHL => .res3_IndHL
  | 4, .reg .b => .res4_B
  | 4, .reg .c => .res4_C
  | 4, .reg .d => .res4_D
  | 4, .reg .e => .res4_E
  | 4, .reg .h => .res4_H
  | 4, .reg .l => .res4_L
  | 4, .reg .a => .res4_A
  | 4, .indHL => .res4_IndHL
  | 5, .reg .b => .res5_B
  | 5, .reg .c => .res5_C
  | 5, .reg .d => .res5_D
  | 5, .reg .e => .res5_E
  | 5, .reg .h => .res5_H
  | 5, .reg .l => .res5_L
  | 5, .reg .a => .res5_A
  | 5, .indHL => .res5_IndHL
  | 6, .reg .b => .res6_B
  | 6, .reg .c => .res6_C
  | 6, .reg .d => .res6_D
  | 6, .reg .e => .res6_E
  | 6, .reg .h => .res6_H
  | 6, .reg .l => .res6_L
  | 6, .reg .a => .res6_A
  | 6, .indHL => .res6_IndHL
  | 7, .reg .b => .res7_B
  | 7, .reg .c => .res7_C
  | 7, .reg .d => .res7_D
  | 7, .reg .e => .res7_E
  | 7, .reg .h => .res7_H
  | 7, .reg .l => .res7_L
  | 7, .reg .a => .res7_A
  | 7, .indHL => .res7_IndHL

/-- `SET b,r` and `SET b,(HL)` (R255, R256). -/
def Instr.set : Fin 8 → Operand8 → Instr
  | 0, .reg .b => .set0_B
  | 0, .reg .c => .set0_C
  | 0, .reg .d => .set0_D
  | 0, .reg .e => .set0_E
  | 0, .reg .h => .set0_H
  | 0, .reg .l => .set0_L
  | 0, .reg .a => .set0_A
  | 0, .indHL => .set0_IndHL
  | 1, .reg .b => .set1_B
  | 1, .reg .c => .set1_C
  | 1, .reg .d => .set1_D
  | 1, .reg .e => .set1_E
  | 1, .reg .h => .set1_H
  | 1, .reg .l => .set1_L
  | 1, .reg .a => .set1_A
  | 1, .indHL => .set1_IndHL
  | 2, .reg .b => .set2_B
  | 2, .reg .c => .set2_C
  | 2, .reg .d => .set2_D
  | 2, .reg .e => .set2_E
  | 2, .reg .h => .set2_H
  | 2, .reg .l => .set2_L
  | 2, .reg .a => .set2_A
  | 2, .indHL => .set2_IndHL
  | 3, .reg .b => .set3_B
  | 3, .reg .c => .set3_C
  | 3, .reg .d => .set3_D
  | 3, .reg .e => .set3_E
  | 3, .reg .h => .set3_H
  | 3, .reg .l => .set3_L
  | 3, .reg .a => .set3_A
  | 3, .indHL => .set3_IndHL
  | 4, .reg .b => .set4_B
  | 4, .reg .c => .set4_C
  | 4, .reg .d => .set4_D
  | 4, .reg .e => .set4_E
  | 4, .reg .h => .set4_H
  | 4, .reg .l => .set4_L
  | 4, .reg .a => .set4_A
  | 4, .indHL => .set4_IndHL
  | 5, .reg .b => .set5_B
  | 5, .reg .c => .set5_C
  | 5, .reg .d => .set5_D
  | 5, .reg .e => .set5_E
  | 5, .reg .h => .set5_H
  | 5, .reg .l => .set5_L
  | 5, .reg .a => .set5_A
  | 5, .indHL => .set5_IndHL
  | 6, .reg .b => .set6_B
  | 6, .reg .c => .set6_C
  | 6, .reg .d => .set6_D
  | 6, .reg .e => .set6_E
  | 6, .reg .h => .set6_H
  | 6, .reg .l => .set6_L
  | 6, .reg .a => .set6_A
  | 6, .indHL => .set6_IndHL
  | 7, .reg .b => .set7_B
  | 7, .reg .c => .set7_C
  | 7, .reg .d => .set7_D
  | 7, .reg .e => .set7_E
  | 7, .reg .h => .set7_H
  | 7, .reg .l => .set7_L
  | 7, .reg .a => .set7_A
  | 7, .indHL => .set7_IndHL

/-- `JP cc,nn` (R262). -/
def Instr.jpCond : Cond → Word → Instr
  | .nz, nn => .jpNZ_nn nn
  | .z, nn => .jpZ_nn nn
  | .nc, nn => .jpNC_nn nn
  | .c, nn => .jpC_nn nn

/-- `JR cc,e` (R265). -/
def Instr.jrCond : Cond → Byte → Instr
  | .nz, e => .jrNZ_e e
  | .z, e => .jrZ_e e
  | .nc, e => .jrNC_e e
  | .c, e => .jrC_e e

/-- `CALL cc,nn` (R267). -/
def Instr.callCond : Cond → Word → Instr
  | .nz, nn => .callNZ_nn nn
  | .z, nn => .callZ_nn nn
  | .nc, nn => .callNC_nn nn
  | .c, nn => .callC_nn nn

/-- `RET cc` (R269). -/
def Instr.retCond : Cond → Instr
  | .nz => .retNZ
  | .z => .retZ
  | .nc => .retNC
  | .c => .retC

/-- `RST t` (R271). -/
def Instr.rst : Fin 8 → Instr
  | 0 => .rst00
  | 1 => .rst08
  | 2 => .rst10
  | 3 => .rst18
  | 4 => .rst20
  | 5 => .rst28
  | 6 => .rst30
  | 7 => .rst38

/-! ### Formats and lengths -/

/-- The formats of R81. -/
inductive Format where
  | op | opN8 | opE8 | opN16 | opPad | cb
  deriving DecidableEq, Repr

/-- STOP_LEN, the length of STOP (R8, decision D9). -/
def stopLength : Nat := 2

/-- How many bytes an instruction of the format occupies (R81). -/
def Format.length : Format → Nat
  | .op => 1
  | .opN8 => 2
  | .opE8 => 2
  | .opN16 => 3
  | .opPad => stopLength
  | .cb => 2

/-- How many bytes the instruction fetch reads: exactly those the format has, but STOP's padding byte is not read
(R65, R99, decision D9). -/
def Format.fetched : Format → Nat
  | .op => 1
  | .opN8 => 2
  | .opE8 => 2
  | .opN16 => 3
  | .opPad => 1
  | .cb => 2

/-! ### The base and the extended opcode map -/

/-- An entry of the base table: what the byte at PC selects (R83), still waiting for its immediate. -/
inductive BaseEntry where
  | op (i : Instr)
  | opN8 (mk : Byte → Instr)
  | opE8 (mk : Byte → Instr)
  | opN16 (mk : Word → Instr)
  | opPad (i : Instr)
  | pre

/-- The format of an entry; the base row 0xCB and the extended rows behind it share the length 2 (R80). -/
def BaseEntry.format : BaseEntry → Format
  | .op _ => .op
  | .opN8 _ => .opN8
  | .opE8 _ => .opE8
  | .opN16 _ => .opN16
  | .opPad _ => .opPad
  | .pre => .cb

/-- Base opcodes with x = 0 (R91). -/
def baseX0 (y z : Fin 8) (q : Bool) (rp : Fin 4) : BaseEntry :=
  match z with
  | 0 =>
    match y with
    | 0 => .op .nop
    | 1 => .opN16 .ldIndNN_SP
    | 2 => .opPad .stop
    | 3 => .opE8 .jr_e
    | 4 => .opE8 (Instr.jrCond .nz)
    | 5 => .opE8 (Instr.jrCond .z)
    | 6 => .opE8 (Instr.jrCond .nc)
    | 7 => .opE8 (Instr.jrCond .c)
  | 1 => if q then .op (Instr.addHL (pairOf rp)) else .opN16 (Instr.ldPair (pairOf rp))
  | 2 =>
    match y with
    | 0 => .op .ldIndBC_A
    | 1 => .op .ldA_IndBC
    | 2 => .op .ldIndDE_A
    | 3 => .op .ldA_IndDE
    | 4 => .op .ldIndHLInc_A
    | 5 => .op .ldA_IndHLInc
    | 6 => .op .ldIndHLDec_A
    | 7 => .op .ldA_IndHLDec
  | 3 => if q then .op (Instr.decPair (pairOf rp)) else .op (Instr.incPair (pairOf rp))
  | 4 => .op (Instr.inc (operandOf y))
  | 5 => .op (Instr.dec (operandOf y))
  | 6 =>
    match operandOf y with
    | .reg r => .opN8 (Instr.ldImm r)
    | .indHL => .opN8 .ldIndHL_n
  | 7 =>
    match y with
    | 0 => .op .rlca
    | 1 => .op .rrca
    | 2 => .op .rla
    | 3 => .op .rra
    | 4 => .op .daa
    | 5 => .op .cpl
    | 6 => .op .scf
    | 7 => .op .ccf

/-- Base opcodes with x = 1 (R92): LD r,r', LD r,(HL), LD (HL),r, and HALT in the slot of LD (HL),(HL). -/
def baseX1 (y z : Fin 8) : BaseEntry :=
  match operandOf y, operandOf z with
  | .reg dst, .reg src => .op (Instr.ld dst src)
  | .reg dst, .indHL => .op (Instr.ldLoad dst)
  | .indHL, .reg src => .op (Instr.ldStore src)
  | .indHL, .indHL => .op .halt

/-- Base opcodes with x = 3 (R94); the eleven undefined values have entries of their own (R98). -/
def baseX3 (y z : Fin 8) (q : Bool) (rp : Fin 4) : BaseEntry :=
  match z with
  | 0 =>
    match y with
    | 0 => .op (Instr.retCond .nz)
    | 1 => .op (Instr.retCond .z)
    | 2 => .op (Instr.retCond .nc)
    | 3 => .op (Instr.retCond .c)
    | 4 => .opN8 .ldhIndN_A
    | 5 => .opE8 .addSP_e
    | 6 => .opN8 .ldhA_IndN
    | 7 => .opE8 .ldHL_SPe
  | 1 =>
    if q then
      match rp with
      | 0 => .op .ret
      | 1 => .op .reti
      | 2 => .op .jpIndHL
      | 3 => .op .ldSP_HL
    else .op (Instr.pop (stackPairOf rp))
  | 2 =>
    match y with
    | 0 => .opN16 (Instr.jpCond .nz)
    | 1 => .opN16 (Instr.jpCond .z)
    | 2 => .opN16 (Instr.jpCond .nc)
    | 3 => .opN16 (Instr.jpCond .c)
    | 4 => .op .ldIndC_A
    | 5 => .opN16 .ldIndNN_A
    | 6 => .op .ldA_IndC
    | 7 => .opN16 .ldA_IndNN
  | 3 =>
    match y with
    | 0 => .opN16 .jp_nn
    | 1 => .pre
    | 2 => .op .undefD3
    | 3 => .op .undefDB
    | 4 => .op .undefE3
    | 5 => .op .undefEB
    | 6 => .op .di
    | 7 => .op .ei
  | 4 =>
    match y with
    | 0 => .opN16 (Instr.callCond .nz)
    | 1 => .opN16 (Instr.callCond .z)
    | 2 => .opN16 (Instr.callCond .nc)
    | 3 => .opN16 (Instr.callCond .c)
    | 4 => .op .undefE4
    | 5 => .op .undefEC
    | 6 => .op .undefF4
    | 7 => .op .undefFC
  | 5 =>
    if q then
      match rp with
      | 0 => .opN16 .call_nn
      | 1 => .op .undefDD
      | 2 => .op .undefED
      | 3 => .op .undefFD
    else .op (Instr.push (stackPairOf rp))
  | 6 => .opN8 (fun n => Instr.alu (aluOf y) (.imm n))
  | 7 => .op (Instr.rst y)

/-- The base table: total over all 256 values (R83, R91 to R95). -/
def baseEntry (op : Byte) : BaseEntry :=
  match fieldX op with
  | 0 => baseX0 (fieldY op) (fieldZ op) (fieldQ op) (fieldP op)
  | 1 => baseX1 (fieldY op) (fieldZ op)
  | 2 => .op (Instr.alu (aluOf (fieldY op)) (sourceOf (fieldZ op)))
  | 3 => baseX3 (fieldY op) (fieldZ op) (fieldQ op) (fieldP op)

/-- The extended table: total over all 256 values of the byte after 0xCB (R84, R97). -/
def extendedEntry (o : Byte) : Instr :=
  match fieldX o with
  | 0 => Instr.rot (rotOf (fieldY o)) (operandOf (fieldZ o))
  | 1 => Instr.bit (fieldY o) (operandOf (fieldZ o))
  | 2 => Instr.res (fieldY o) (operandOf (fieldZ o))
  | 3 => Instr.set (fieldY o) (operandOf (fieldZ o))

/-- The length table of R96: the number of bytes of the instruction whose first byte is `op`. -/
def opLength (op : Byte) : Nat := (baseEntry op).format.length

/-! ### The decoder -/

/-- Why a list of bytes is no instruction. No byte VALUE is refused (R83): only bytes that are missing. -/
inductive DecodeError where
  /-- The list is empty. -/
  | noOpcode
  /-- The list ends before the immediate of the instruction that starts with `op`. -/
  | missingImmediate (op : Byte)
  deriving DecidableEq, Repr

/-- Decode the instruction at the head of a list of bytes and return it with the bytes after it. STOP swallows its
padding byte where there is one (R99). The prefix with no byte after it is the base-table row PREFIX CB itself (log
entry 3); with a byte after it the extended table decides (R84). -/
def decode : List Byte → Except DecodeError (Instr × List Byte)
  | [] => .error .noOpcode
  | op :: rest =>
    match baseEntry op, rest with
    | .op i, r => .ok (i, r)
    | .opPad i, r => .ok (i, r.drop (stopLength - 1))
    | .opN8 mk, n :: r => .ok (mk n, r)
    | .opE8 mk, e :: r => .ok (mk e, r)
    | .opN16 mk, lo :: hi :: r => .ok (mk (wordOf hi lo), r)
    | .pre, o :: r => .ok (extendedEntry o, r)
    | .pre, [] => .ok (.prefixCB, [])
    | .opN8 _, [] => .error (.missingImmediate op)
    | .opE8 _, [] => .error (.missingImmediate op)
    | .opN16 _, [] => .error (.missingImmediate op)
    | .opN16 _, [_] => .error (.missingImmediate op)

/-! ### The encoder -/

/-- The bytes of an instruction, byte 0 first, from the match column of spec/opcode_table.json (R103): a 16-bit
immediate low byte first (R88), STOP with the customary padding byte 0x00 (K9), the bare prefix as its one byte. -/
def encode : Instr → List Byte
  | .nop => [0x00]
  | .ldBC_nn nn => [0x01, lo8 nn, hi8 nn]
  | .ldIndBC_A => [0x02]
  | .incBC => [0x03]
  | .incB => [0x04]
  | .decB => [0x05]
  | .ldB_n n => [0x06, n]
  | .rlca => [0x07]
  | .ldIndNN_SP nn => [0x08, lo8 nn, hi8 nn]
  | .addHL_BC => [0x09]
  | .ldA_IndBC => [0x0A]
  | .decBC => [0x0B]
  | .incC => [0x0C]
  | .decC => [0x0D]
  | .ldC_n n => [0x0E, n]
  | .rrca => [0x0F]
  | .stop => [0x10, 0x00]
  | .ldDE_nn nn => [0x11, lo8 nn, hi8 nn]
  | .ldIndDE_A => [0x12]
  | .incDE => [0x13]
  | .incD => [0x14]
  | .decD => [0x15]
  | .ldD_n n => [0x16, n]
  | .rla => [0x17]
  | .jr_e e => [0x18, e]
  | .addHL_DE => [0x19]
  | .ldA_IndDE => [0x1A]
  | .decDE => [0x1B]
  | .incE => [0x1C]
  | .decE => [0x1D]
  | .ldE_n n => [0x1E, n]
  | .rra => [0x1F]
  | .jrNZ_e e => [0x20, e]
  | .ldHL_nn nn => [0x21, lo8 nn, hi8 nn]
  | .ldIndHLInc_A => [0x22]
  | .incHL => [0x23]
  | .incH => [0x24]
  | .decH => [0x25]
  | .ldH_n n => [0x26, n]
  | .daa => [0x27]
  | .jrZ_e e => [0x28, e]
  | .addHL_HL => [0x29]
  | .ldA_IndHLInc => [0x2A]
  | .decHL => [0x2B]
  | .incL => [0x2C]
  | .decL => [0x2D]
  | .ldL_n n => [0x2E, n]
  | .cpl => [0x2F]
  | .jrNC_e e => [0x30, e]
  | .ldSP_nn nn => [0x31, lo8 nn, hi8 nn]
  | .ldIndHLDec_A => [0x32]
  | .incSP => [0x33]
  | .incIndHL => [0x34]
  | .decIndHL => [0x35]
  | .ldIndHL_n n => [0x36, n]
  | .scf => [0x37]
  | .jrC_e e => [0x38, e]
  | .addHL_SP => [0x39]
  | .ldA_IndHLDec => [0x3A]
  | .decSP => [0x3B]
  | .incA => [0x3C]
  | .decA => [0x3D]
  | .ldA_n n => [0x3E, n]
  | .ccf => [0x3F]
  | .ldB_B => [0x40]
  | .ldB_C => [0x41]
  | .ldB_D => [0x42]
  | .ldB_E => [0x43]
  | .ldB_H => [0x44]
  | .ldB_L => [0x45]
  | .ldB_IndHL => [0x46]
  | .ldB_A => [0x47]
  | .ldC_B => [0x48]
  | .ldC_C => [0x49]
  | .ldC_D => [0x4A]
  | .ldC_E => [0x4B]
  | .ldC_H => [0x4C]
  | .ldC_L => [0x4D]
  | .ldC_IndHL => [0x4E]
  | .ldC_A => [0x4F]
  | .ldD_B => [0x50]
  | .ldD_C => [0x51]
  | .ldD_D => [0x52]
  | .ldD_E => [0x53]
  | .ldD_H => [0x54]
  | .ldD_L => [0x55]
  | .ldD_IndHL => [0x56]
  | .ldD_A => [0x57]
  | .ldE_B => [0x58]
  | .ldE_C => [0x59]
  | .ldE_D => [0x5A]
  | .ldE_E => [0x5B]
  | .ldE_H => [0x5C]
  | .ldE_L => [0x5D]
  | .ldE_IndHL => [0x5E]
  | .ldE_A => [0x5F]
  | .ldH_B => [0x60]
  | .ldH_C => [0x61]
  | .ldH_D => [0x62]
  | .ldH_E => [0x63]
  | .ldH_H => [0x64]
  | .ldH_L => [0x65]
  | .ldH_IndHL => [0x66]
  | .ldH_A => [0x67]
  | .ldL_B => [0x68]
  | .ldL_C => [0x69]
  | .ldL_D => [0x6A]
  | .ldL_E => [0x6B]
  | .ldL_H => [0x6C]
  | .ldL_L => [0x6D]
  | .ldL_IndHL => [0x6E]
  | .ldL_A => [0x6F]
  | .ldIndHL_B => [0x70]
  | .ldIndHL_C => [0x71]
  | .ldIndHL_D => [0x72]
  | .ldIndHL_E => [0x73]
  | .ldIndHL_H => [0x74]
  | .ldIndHL_L => [0x75]
  | .halt => [0x76]
  | .ldIndHL_A => [0x77]
  | .ldA_B => [0x78]
  | .ldA_C => [0x79]
  | .ldA_D => [0x7A]
  | .ldA_E => [0x7B]
  | .ldA_H => [0x7C]
  | .ldA_L => [0x7D]
  | .ldA_IndHL => [0x7E]
  | .ldA_A => [0x7F]
  | .addA_B => [0x80]
  | .addA_C => [0x81]
  | .addA_D => [0x82]
  | .addA_E => [0x83]
  | .addA_H => [0x84]
  | .addA_L => [0x85]
  | .addA_IndHL => [0x86]
  | .addA_A => [0x87]
  | .adcA_B => [0x88]
  | .adcA_C => [0x89]
  | .adcA_D => [0x8A]
  | .adcA_E => [0x8B]
  | .adcA_H => [0x8C]
  | .adcA_L => [0x8D]
  | .adcA_IndHL => [0x8E]
  | .adcA_A => [0x8F]
  | .subB => [0x90]
  | .subC => [0x91]
  | .subD => [0x92]
  | .subE => [0x93]
  | .subH => [0x94]
  | .subL => [0x95]
  | .subIndHL => [0x96]
  | .subA => [0x97]
  | .sbcA_B => [0x98]
  | .sbcA_C => [0x99]
  | .sbcA_D => [0x9A]
  | .sbcA_E => [0x9B]
  | .sbcA_H => [0x9C]
  | .sbcA_L => [0x9D]
  | .sbcA_IndHL => [0x9E]
  | .sbcA_A => [0x9F]
  | .andB => [0xA0]
  | .andC => [0xA1]
  | .andD => [0xA2]
  | .andE => [0xA3]
  | .andH => [0xA4]
  | .andL => [0xA5]
  | .andIndHL => [0xA6]
  | .andA => [0xA7]
  | .xorB => [0xA8]
  | .xorC => [0xA9]
  | .xorD => [0xAA]
  | .xorE => [0xAB]
  | .xorH => [0xAC]
  | .xorL => [0xAD]
  | .xorIndHL => [0xAE]
  | .xorA => [0xAF]
  | .orB => [0xB0]
  | .orC => [0xB1]
  | .orD => [0xB2]
  | .orE => [0xB3]
  | .orH => [0xB4]
  | .orL => [0xB5]
  | .orIndHL => [0xB6]
  | .orA => [0xB7]
  | .cpB => [0xB8]
  | .cpC => [0xB9]
  | .cpD => [0xBA]
  | .cpE => [0xBB]
  | .cpH => [0xBC]
  | .cpL => [0xBD]
  | .cpIndHL => [0xBE]
  | .cpA => [0xBF]
  | .retNZ => [0xC0]
  | .popBC => [0xC1]
  | .jpNZ_nn nn => [0xC2, lo8 nn, hi8 nn]
  | .jp_nn nn => [0xC3, lo8 nn, hi8 nn]
  | .callNZ_nn nn => [0xC4, lo8 nn, hi8 nn]
  | .pushBC => [0xC5]
  | .addA_n n => [0xC6, n]
  | .rst00 => [0xC7]
  | .retZ => [0xC8]
  | .ret => [0xC9]
  | .jpZ_nn nn => [0xCA, lo8 nn, hi8 nn]
  | .prefixCB => [0xCB]
  | .callZ_nn nn => [0xCC, lo8 nn, hi8 nn]
  | .call_nn nn => [0xCD, lo8 nn, hi8 nn]
  | .adcA_n n => [0xCE, n]
  | .rst08 => [0xCF]
  | .retNC => [0xD0]
  | .popDE => [0xD1]
  | .jpNC_nn nn => [0xD2, lo8 nn, hi8 nn]
  | .undefD3 => [0xD3]
  | .callNC_nn nn => [0xD4, lo8 nn, hi8 nn]
  | .pushDE => [0xD5]
  | .sub_n n => [0xD6, n]
  | .rst10 => [0xD7]
  | .retC => [0xD8]
  | .reti => [0xD9]
  | .jpC_nn nn => [0xDA, lo8 nn, hi8 nn]
  | .undefDB => [0xDB]
  | .callC_nn nn => [0xDC, lo8 nn, hi8 nn]
  | .undefDD => [0xDD]
  | .sbcA_n n => [0xDE, n]
  | .rst18 => [0xDF]
  | .ldhIndN_A n => [0xE0, n]
  | .popHL => [0xE1]
  | .ldIndC_A => [0xE2]
  | .undefE3 => [0xE3]
  | .undefE4 => [0xE4]
  | .pushHL => [0xE5]
  | .and_n n => [0xE6, n]
  | .rst20 => [0xE7]
  | .addSP_e e => [0xE8, e]
  | .jpIndHL => [0xE9]
  | .ldIndNN_A nn => [0xEA, lo8 nn, hi8 nn]
  | .undefEB => [0xEB]
  | .undefEC => [0xEC]
  | .undefED => [0xED]
  | .xor_n n => [0xEE, n]
  | .rst28 => [0xEF]
  | .ldhA_IndN n => [0xF0, n]
  | .popAF => [0xF1]
  | .ldA_IndC => [0xF2]
  | .di => [0xF3]
  | .undefF4 => [0xF4]
  | .pushAF => [0xF5]
  | .or_n n => [0xF6, n]
  | .rst30 => [0xF7]
  | .ldHL_SPe e => [0xF8, e]
  | .ldSP_HL => [0xF9]
  | .ldA_IndNN nn => [0xFA, lo8 nn, hi8 nn]
  | .ei => [0xFB]
  | .undefFC => [0xFC]
  | .undefFD => [0xFD]
  | .cp_n n => [0xFE, n]
  | .rst38 => [0xFF]
  | .rlcB => [0xCB, 0x00]
  | .rlcC => [0xCB, 0x01]
  | .rlcD => [0xCB, 0x02]
  | .rlcE => [0xCB, 0x03]
  | .rlcH => [0xCB, 0x04]
  | .rlcL => [0xCB, 0x05]
  | .rlcIndHL => [0xCB, 0x06]
  | .rlcA => [0xCB, 0x07]
  | .rrcB => [0xCB, 0x08]
  | .rrcC => [0xCB, 0x09]
  | .rrcD => [0xCB, 0x0A]
  | .rrcE => [0xCB, 0x0B]
  | .rrcH => [0xCB, 0x0C]
  | .rrcL => [0xCB, 0x0D]
  | .rrcIndHL => [0xCB, 0x0E]
  | .rrcA => [0xCB, 0x0F]
  | .rlB => [0xCB, 0x10]
  | .rlC => [0xCB, 0x11]
  | .rlD => [0xCB, 0x12]
  | .rlE => [0xCB, 0x13]
  | .rlH => [0xCB, 0x14]
  | .rlL => [0xCB, 0x15]
  | .rlIndHL => [0xCB, 0x16]
  | .rlA => [0xCB, 0x17]
  | .rrB => [0xCB, 0x18]
  | .rrC => [0xCB, 0x19]
  | .rrD => [0xCB, 0x1A]
  | .rrE => [0xCB, 0x1B]
  | .rrH => [0xCB, 0x1C]
  | .rrL => [0xCB, 0x1D]
  | .rrIndHL => [0xCB, 0x1E]
  | .rrA => [0xCB, 0x1F]
  | .slaB => [0xCB, 0x20]
  | .slaC => [0xCB, 0x21]
  | .slaD => [0xCB, 0x22]
  | .slaE => [0xCB, 0x23]
  | .slaH => [0xCB, 0x24]
  | .slaL => [0xCB, 0x25]
  | .slaIndHL => [0xCB, 0x26]
  | .slaA => [0xCB, 0x27]
  | .sraB => [0xCB, 0x28]
  | .sraC => [0xCB, 0x29]
  | .sraD => [0xCB, 0x2A]
  | .sraE => [0xCB, 0x2B]
  | .sraH => [0xCB, 0x2C]
  | .sraL => [0xCB, 0x2D]
  | .sraIndHL => [0xCB, 0x2E]
  | .sraA => [0xCB, 0x2F]
  | .swapB => [0xCB, 0x30]
  | .swapC => [0xCB, 0x31]
  | .swapD => [0xCB, 0x32]
  | .swapE => [0xCB, 0x33]
  | .swapH => [0xCB, 0x34]
  | .swapL => [0xCB, 0x35]
  | .swapIndHL => [0xCB, 0x36]
  | .swapA => [0xCB, 0x37]
  | .srlB => [0xCB, 0x38]
  | .srlC => [0xCB, 0x39]
  | .srlD => [0xCB, 0x3A]
  | .srlE => [0xCB, 0x3B]
  | .srlH => [0xCB, 0x3C]
  | .srlL => [0xCB, 0x3D]
  | .srlIndHL => [0xCB, 0x3E]
  | .srlA => [0xCB, 0x3F]
  | .bit0_B => [0xCB, 0x40]
  | .bit0_C => [0xCB, 0x41]
  | .bit0_D => [0xCB, 0x42]
  | .bit0_E => [0xCB, 0x43]
  | .bit0_H => [0xCB, 0x44]
  | .bit0_L => [0xCB, 0x45]
  | .bit0_IndHL => [0xCB, 0x46]
  | .bit0_A => [0xCB, 0x47]
  | .bit1_B => [0xCB, 0x48]
  | .bit1_C => [0xCB, 0x49]
  | .bit1_D => [0xCB, 0x4A]
  | .bit1_E => [0xCB, 0x4B]
  | .bit1_H => [0xCB, 0x4C]
  | .bit1_L => [0xCB, 0x4D]
  | .bit1_IndHL => [0xCB, 0x4E]
  | .bit1_A => [0xCB, 0x4F]
  | .bit2_B => [0xCB, 0x50]
  | .bit2_C => [0xCB, 0x51]
  | .bit2_D => [0xCB, 0x52]
  | .bit2_E => [0xCB, 0x53]
  | .bit2_H => [0xCB, 0x54]
  | .bit2_L => [0xCB, 0x55]
  | .bit2_IndHL => [0xCB, 0x56]
  | .bit2_A => [0xCB, 0x57]
  | .bit3_B => [0xCB, 0x58]
  | .bit3_C => [0xCB, 0x59]
  | .bit3_D => [0xCB, 0x5A]
  | .bit3_E => [0xCB, 0x5B]
  | .bit3_H => [0xCB, 0x5C]
  | .bit3_L => [0xCB, 0x5D]
  | .bit3_IndHL => [0xCB, 0x5E]
  | .bit3_A => [0xCB, 0x5F]
  | .bit4_B => [0xCB, 0x60]
  | .bit4_C => [0xCB, 0x61]
  | .bit4_D => [0xCB, 0x62]
  | .bit4_E => [0xCB, 0x63]
  | .bit4_H => [0xCB, 0x64]
  | .bit4_L => [0xCB, 0x65]
  | .bit4_IndHL => [0xCB, 0x66]
  | .bit4_A => [0xCB, 0x67]
  | .bit5_B => [0xCB, 0x68]
  | .bit5_C => [0xCB, 0x69]
  | .bit5_D => [0xCB, 0x6A]
  | .bit5_E => [0xCB, 0x6B]
  | .bit5_H => [0xCB, 0x6C]
  | .bit5_L => [0xCB, 0x6D]
  | .bit5_IndHL => [0xCB, 0x6E]
  | .bit5_A => [0xCB, 0x6F]
  | .bit6_B => [0xCB, 0x70]
  | .bit6_C => [0xCB, 0x71]
  | .bit6_D => [0xCB, 0x72]
  | .bit6_E => [0xCB, 0x73]
  | .bit6_H => [0xCB, 0x74]
  | .bit6_L => [0xCB, 0x75]
  | .bit6_IndHL => [0xCB, 0x76]
  | .bit6_A => [0xCB, 0x77]
  | .bit7_B => [0xCB, 0x78]
  | .bit7_C => [0xCB, 0x79]
  | .bit7_D => [0xCB, 0x7A]
  | .bit7_E => [0xCB, 0x7B]
  | .bit7_H => [0xCB, 0x7C]
  | .bit7_L => [0xCB, 0x7D]
  | .bit7_IndHL => [0xCB, 0x7E]
  | .bit7_A => [0xCB, 0x7F]
  | .res0_B => [0xCB, 0x80]
  | .res0_C => [0xCB, 0x81]
  | .res0_D => [0xCB, 0x82]
  | .res0_E => [0xCB, 0x83]
  | .res0_H => [0xCB, 0x84]
  | .res0_L => [0xCB, 0x85]
  | .res0_IndHL => [0xCB, 0x86]
  | .res0_A => [0xCB, 0x87]
  | .res1_B => [0xCB, 0x88]
  | .res1_C => [0xCB, 0x89]
  | .res1_D => [0xCB, 0x8A]
  | .res1_E => [0xCB, 0x8B]
  | .res1_H => [0xCB, 0x8C]
  | .res1_L => [0xCB, 0x8D]
  | .res1_IndHL => [0xCB, 0x8E]
  | .res1_A => [0xCB, 0x8F]
  | .res2_B => [0xCB, 0x90]
  | .res2_C => [0xCB, 0x91]
  | .res2_D => [0xCB, 0x92]
  | .res2_E => [0xCB, 0x93]
  | .res2_H => [0xCB, 0x94]
  | .res2_L => [0xCB, 0x95]
  | .res2_IndHL => [0xCB, 0x96]
  | .res2_A => [0xCB, 0x97]
  | .res3_B => [0xCB, 0x98]
  | .res3_C => [0xCB, 0x99]
  | .res3_D => [0xCB, 0x9A]
  | .res3_E => [0xCB, 0x9B]
  | .res3_H => [0xCB, 0x9C]
  | .res3_L => [0xCB, 0x9D]
  | .res3_IndHL => [0xCB, 0x9E]
  | .res3_A => [0xCB, 0x9F]
  | .res4_B => [0xCB, 0xA0]
  | .res4_C => [0xCB, 0xA1]
  | .res4_D => [0xCB, 0xA2]
  | .res4_E => [0xCB, 0xA3]
  | .res4_H => [0xCB, 0xA4]
  | .res4_L => [0xCB, 0xA5]
  | .res4_IndHL => [0xCB, 0xA6]
  | .res4_A => [0xCB, 0xA7]
  | .res5_B => [0xCB, 0xA8]
  | .res5_C => [0xCB, 0xA9]
  | .res5_D => [0xCB, 0xAA]
  | .res5_E => [0xCB, 0xAB]
  | .res5_H => [0xCB, 0xAC]
  | .res5_L => [0xCB, 0xAD]
  | .res5_IndHL => [0xCB, 0xAE]
  | .res5_A => [0xCB, 0xAF]
  | .res6_B => [0xCB, 0xB0]
  | .res6_C => [0xCB, 0xB1]
  | .res6_D => [0xCB, 0xB2]
  | .res6_E => [0xCB, 0xB3]
  | .res6_H => [0xCB, 0xB4]
  | .res6_L => [0xCB, 0xB5]
  | .res6_IndHL => [0xCB, 0xB6]
  | .res6_A => [0xCB, 0xB7]
  | .res7_B => [0xCB, 0xB8]
  | .res7_C => [0xCB, 0xB9]
  | .res7_D => [0xCB, 0xBA]
  | .res7_E => [0xCB, 0xBB]
  | .res7_H => [0xCB, 0xBC]
  | .res7_L => [0xCB, 0xBD]
  | .res7_IndHL => [0xCB, 0xBE]
  | .res7_A => [0xCB, 0xBF]
  | .set0_B => [0xCB, 0xC0]
  | .set0_C => [0xCB, 0xC1]
  | .set0_D => [0xCB, 0xC2]
  | .set0_E => [0xCB, 0xC3]
  | .set0_H => [0xCB, 0xC4]
  | .set0_L => [0xCB, 0xC5]
  | .set0_IndHL => [0xCB, 0xC6]
  | .set0_A => [0xCB, 0xC7]
  | .set1_B => [0xCB, 0xC8]
  | .set1_C => [0xCB, 0xC9]
  | .set1_D => [0xCB, 0xCA]
  | .set1_E => [0xCB, 0xCB]
  | .set1_H => [0xCB, 0xCC]
  | .set1_L => [0xCB, 0xCD]
  | .set1_IndHL => [0xCB, 0xCE]
  | .set1_A => [0xCB, 0xCF]
  | .set2_B => [0xCB, 0xD0]
  | .set2_C => [0xCB, 0xD1]
  | .set2_D => [0xCB, 0xD2]
  | .set2_E => [0xCB, 0xD3]
  | .set2_H => [0xCB, 0xD4]
  | .set2_L => [0xCB, 0xD5]
  | .set2_IndHL => [0xCB, 0xD6]
  | .set2_A => [0xCB, 0xD7]
  | .set3_B => [0xCB, 0xD8]
  | .set3_C => [0xCB, 0xD9]
  | .set3_D => [0xCB, 0xDA]
  | .set3_E => [0xCB, 0xDB]
  | .set3_H => [0xCB, 0xDC]
  | .set3_L => [0xCB, 0xDD]
  | .set3_IndHL => [0xCB, 0xDE]
  | .set3_A => [0xCB, 0xDF]
  | .set4_B => [0xCB, 0xE0]
  | .set4_C => [0xCB, 0xE1]
  | .set4_D => [0xCB, 0xE2]
  | .set4_E => [0xCB, 0xE3]
  | .set4_H => [0xCB, 0xE4]
  | .set4_L => [0xCB, 0xE5]
  | .set4_IndHL => [0xCB, 0xE6]
  | .set4_A => [0xCB, 0xE7]
  | .set5_B => [0xCB, 0xE8]
  | .set5_C => [0xCB, 0xE9]
  | .set5_D => [0xCB, 0xEA]
  | .set5_E => [0xCB, 0xEB]
  | .set5_H => [0xCB, 0xEC]
  | .set5_L => [0xCB, 0xED]
  | .set5_IndHL => [0xCB, 0xEE]
  | .set5_A => [0xCB, 0xEF]
  | .set6_B => [0xCB, 0xF0]
  | .set6_C => [0xCB, 0xF1]
  | .set6_D => [0xCB, 0xF2]
  | .set6_E => [0xCB, 0xF3]
  | .set6_H => [0xCB, 0xF4]
  | .set6_L => [0xCB, 0xF5]
  | .set6_IndHL => [0xCB, 0xF6]
  | .set6_A => [0xCB, 0xF7]
  | .set7_B => [0xCB, 0xF8]
  | .set7_C => [0xCB, 0xF9]
  | .set7_D => [0xCB, 0xFA]
  | .set7_E => [0xCB, 0xFB]
  | .set7_H => [0xCB, 0xFC]
  | .set7_L => [0xCB, 0xFD]
  | .set7_IndHL => [0xCB, 0xFE]
  | .set7_A => [0xCB, 0xFF]

/-- The number of bytes an instruction occupies: a function of its first byte alone (R80). -/
def Instr.length (i : Instr) : Nat :=
  match encode i with
  | [] => 0
  | op :: _ => opLength op

/-! ### The table's numbering of an instruction's bits -/

/-- The bytes of the table word `w` of `nbits` bits, byte 0 first, padded with zeros to the longest instruction. A base
row's bits are numbered from byte 0 (bits 7..0). An extended row's match is 0xCBoo, "byte 0 in bits 15..8" (R103), so a
word whose bits 15..8 are 0xCB is read in that order. Log entry 4. -/
def tableBytes (nbits w : Nat) : List Byte :=
  let v := w % 2 ^ nbits
  if v / 256 = 0xCB then [0xCB, BitVec.ofNat 8 v, 0x00]
  else [BitVec.ofNat 8 v, BitVec.ofNat 8 (v / 256), BitVec.ofNat 8 (v / 65536)]

/-- The instruction the decoder reads from the table word `w`. The word of the base row PREFIX CB is the one byte 0xCB;
its second byte is no operand but the number of another row, so for that row the decoder is given the one byte (log
entry 3). -/
def decodeTableWord (nbits w : Nat) : Option Instr :=
  let bytes := if w % 2 ^ nbits = 0xCB then [0xCB] else tableBytes nbits w
  match decode bytes with
  | .ok (i, _) => some i
  | .error _ => none

end Sys2Proof
end

