-- ==== Sys2Proof/Config.lean ====
section
/-! DEFINITION. What the specification fixes for this core once and for all (spec/00_scope.md R8).
The packing parameter FPACK / FUNPACK stands in Sys2Proof/Machine/Flags.lean, where its default instance can be mended;
the instruction lengths (STOP_LEN among them) stand in Sys2Proof/Decode.lean. There is no free value: the spec leaves no
result of any instruction undefined. -/

namespace Sys2Proof

/-- The number of bytes of memory: one per address 0x0000 to 0xFFFF (R8, R29). -/
abbrev Config.memSize : Nat := 65536

/-- The byte an address reads as that no LoadMemory and no store has written (decision D20: bytes no call writes are
0x00). DESIGN CHOICE of the spec, unsafe: log entry 2. -/
def Config.unloadedByte : Byte := 0x00#8

/-- PC after reset (R31). -/
def Config.resetPc : Word := 0x0000#16

/-- SP after reset (R31). -/
def Config.resetSp : Word := 0x0000#16

end Sys2Proof
end

