-- ==== Sys2Proof/Machine/State.lean ====
section
/-! DEFINITION. The complete state of the core as plain data (spec/10_state.md R30), its value after reset (R31), and the
reasons a step can stop. -/

namespace Sys2Proof.Machine

/-- The five condition flags (R25). There is no Subtract flag. -/
structure Flags where
  /-- Zero -/
  fZ : Bool
  /-- Carry -/
  fC : Bool
  /-- Sign -/
  fS : Bool
  /-- HalfCarry -/
  fH : Bool
  /-- Parity: bit 0 of the result is 0 (R11) -/
  fP : Bool
  deriving DecidableEq, Repr

/-- MEM (R29): the written bytes by address, in the canonical form `Memory.wf`; an address that is not listed reads as
`Config.unloadedByte`. -/
abbrev Memory := List Host.Cell

/-- The canonical form: addresses strictly rising, each inside the space, no entry equal to what an unlisted address
reads as. Equal memories are then equal lists. -/
abbrev Memory.wf (m : Memory) : Prop :=
  m.Pairwise (fun x y => x.1 < y.1) ∧ ∀ x ∈ m, x.1 < Config.memSize ∧ x.2 ≠ Config.unloadedByte

/-- The complete state (R30). The pairs BC, DE and HL are views of the registers, not state of their own (R21); F is the
five flags (R22). -/
structure State where
  /-- A, the accumulator (R20) -/
  a : Byte
  /-- B (R20) -/
  b : Byte
  /-- C (R20) -/
  c : Byte
  /-- D (R20) -/
  d : Byte
  /-- E (R20) -/
  e : Byte
  /-- H (R20) -/
  h : Byte
  /-- L (R20) -/
  l : Byte
  /-- the five flags (R25) -/
  flags : Flags
  /-- PC: between steps the address of the next opcode byte (R23) -/
  pc : Word
  /-- SP: the top of a descending stack (R24) -/
  sp : Word
  /-- HALTED, the halt latch (R27) -/
  halted : Bool
  /-- MEM (R29) -/
  mem : Memory
  deriving DecidableEq, Repr

/-- The one exception of the core (R300, R302). -/
inductive Fault where
  /-- `BoundsViolation(addr)`: an access at the unbounded integer address `addr`, outside 0x0000 to 0xFFFF. Raised by the
  checked accesses `memRead` and `memWrite` (fetch of an immediate, push, pop, LD (nn),SP). It is terminal and carries no
  state (R301): nothing can be proved about a state after it. Safe. -/
  | boundsViolation (addr : Int)
  deriving DecidableEq, Repr

/-- The reasons the model gives no meaning. -/
inductive Refusal where
  /-- The instruction has no meaning in the model yet. Raised by arms of `exec` only; no arm raises it now. Safe. -/
  | notModelled (mnemonic : String)
  /-- The fetched bytes decode to no instruction. Raised by `step` and by the nested dispatch of the prefix in code that
  no state reaches, because both tables are total (R83). Safe. -/
  | undecodable
  /-- `LoadMemory` of `len` bytes at `atOffset` does not fit the address space: the host's call is refused before the run
  (R64, decision D27). Raised by `State.loadMemory`, never by a step. Safe. -/
  | loadOutOfBounds (atOffset : Int) (len : Nat)
  deriving DecidableEq, Repr

/-- What a meaning answers: the next state, or why there is none (R12). -/
abbrev Result := Host.Outcome State Fault Refusal

/-- The state right after reset (R31, R320): everything zero and false, PC = 0x0000. Memory is MEM_INIT, the host's
parameter; here it is the image no LoadMemory call has touched, all 0x00 (R321; log entry 2). -/
def State.reset : State where
  a := 0x00#8
  b := 0x00#8
  c := 0x00#8
  d := 0x00#8
  e := 0x00#8
  h := 0x00#8
  l := 0x00#8
  flags := ⟨false, false, false, false, false⟩
  pc := Config.resetPc
  sp := Config.resetSp
  halted := false
  mem := []

end Sys2Proof.Machine
end

