-- ==== Sys2Proof/Machine/Ops.lean ====
section
/-! DEFINITION. The named operations over memory, registers, PC and the stack (spec/00_scope.md R10, spec/20_memory.md,
spec/41_loads_16bit_stack.md R140), the one exception, and the return. -/

namespace Sys2Proof.Machine

/-! ### Memory -/

/-- The byte at an address; an unlisted address reads as `Config.unloadedByte` (R51, decision D20). -/
def Memory.read : Memory → Nat → Byte
  | [], _ => Config.unloadedByte
  | (k, v) :: m, addr => if k = addr then v else Memory.read m addr

/-- The memory without the entry of an address. -/
def Memory.erase (m : Memory) (addr : Nat) : Memory := m.filter (fun x => x.1 != addr)

/-- Put an entry where it keeps the addresses rising. -/
def Memory.insert (addr : Nat) (v : Byte) : Memory → Memory
  | [] => [(addr, v)]
  | (k, w) :: m => if addr < k then (addr, v) :: (k, w) :: m else (k, w) :: Memory.insert addr v m

/-- Write one byte and change nothing else (R51); the byte an unlisted address reads as is not listed. -/
def Memory.write (m : Memory) (addr : Nat) (v : Byte) : Memory :=
  if v = Config.unloadedByte then m.erase addr else Memory.insert addr v (m.erase addr)

/-- The byte at a 16-bit address: never out of range (R56, the rows HL, BC, DE, nn, 0xFF00 + n, 0xFF00 + C and PC). -/
def State.readByte (s : State) (addr : Word) : Byte := s.mem.read addr.toNat

/-- Store a byte at a 16-bit address: never out of range (R56). -/
def State.writeByte (s : State) (addr : Word) (v : Byte) : State :=
  { s with mem := s.mem.write addr.toNat v }

/-! ### The exception -/

/-- `raise BoundsViolation(addr)` (R10, R301): the step ends; no state is saved, no register written, no handler entered,
and whatever the instruction computed is discarded because the fault carries no state. -/
def raiseBoundsViolation {α : Type} (addr : Int) : Except Fault α := .error (.boundsViolation addr)

/-- `MemRead(addr, 1)` (R10): the address is an unbounded integer, checked before use (R55). -/
def memRead (s : State) (addr : Int) : Except Fault Byte :=
  if addr < 0 ∨ addr > 0xFFFF then raiseBoundsViolation addr else .ok (s.mem.read addr.toNat)

/-- `MemWrite(addr, 1, v)` (R10), with the same check. -/
def memWrite (s : State) (addr : Int) (v : Byte) : Except Fault State :=
  if addr < 0 ∨ addr > 0xFFFF then raiseBoundsViolation addr
  else .ok { s with mem := s.mem.write addr.toNat v }

/-! ### Registers -/

/-- `x[i]`: read an 8-bit register (R10, R20). -/
def State.reg (s : State) : Reg8 → Byte
  | .b => s.b
  | .c => s.c
  | .d => s.d
  | .e => s.e
  | .h => s.h
  | .l => s.l
  | .a => s.a

/-- `x[i] <- v`: write an 8-bit register. -/
def State.setReg (s : State) (r : Reg8) (v : Byte) : State :=
  match r with
  | .b => { s with b := v }
  | .c => { s with c := v }
  | .d => { s with d := v }
  | .e => { s with e := v }
  | .h => { s with h := v }
  | .l => { s with l := v }
  | .a => { s with a := v }

/-- BC = (B << 8) | C (R21). -/
def State.bc (s : State) : Word := wordOf s.b s.c

/-- DE = (D << 8) | E (R21). -/
def State.de (s : State) : Word := wordOf s.d s.e

/-- HL = (H << 8) | L (R21). -/
def State.hl (s : State) : Word := wordOf s.h s.l

/-- A write to HL writes through to both halves (R21). -/
def State.setHL (s : State) (w : Word) : State := { s with h := hi8 w, l := lo8 w }

/-- `xx[p]`: read a pair or SP (R10). -/
def State.pair (s : State) : Pair → Word
  | .bc => s.bc
  | .de => s.de
  | .hl => s.hl
  | .sp => s.sp

/-- `xx[p] <- w`: write a pair, through to both halves (R21), or SP. -/
def State.setPair (s : State) (p : Pair) (w : Word) : State :=
  match p with
  | .bc => { s with b := hi8 w, c := lo8 w }
  | .de => { s with d := hi8 w, e := lo8 w }
  | .hl => s.setHL w
  | .sp => { s with sp := w }

/-- Replace all five flags. -/
def State.setFlags (s : State) (f : Flags) : State := { s with flags := f }

/-- `PC <- target` (R10). -/
def State.setPc (s : State) (target : Word) : State := { s with pc := target }

/-- `PC <- (PC + n) mod 65536` (R23): PC arithmetic wraps. -/
def State.advance (s : State) (n : Nat) : State := { s with pc := s.pc + BitVec.ofNat 16 n }

/-! ### The stack -/

/-- `Push16(w)` (R140): high byte at SP - 1 first, then low byte at SP - 2, then SP lowered by 2. The addresses are
unbounded integers, so SP = 0 and SP = 1 raise BoundsViolation(-1); the new SP wraps. -/
def push16 (s : State) (w : Word) : Except Fault State :=
  match memWrite s ((s.sp.toNat : Int) - 1) (hi8 w) with
  | .error f => .error f
  | .ok s1 =>
    match memWrite s1 ((s.sp.toNat : Int) - 2) (lo8 w) with
    | .error f => .error f
    | .ok s2 => .ok { s2 with sp := s.sp - 2#16 }

/-- `Pop16()` (R140): low byte at SP, high byte at SP + 1, SP raised by 2. SP = 0xFFFF raises BoundsViolation(0x10000). -/
def pop16 (s : State) : Except Fault (Word × State) :=
  match memRead s (s.sp.toNat : Int) with
  | .error f => .error f
  | .ok lo =>
    match memRead s ((s.sp.toNat : Int) + 1) with
    | .error f => .error f
    | .ok hi => .ok (wordOf hi lo, { s with sp := s.sp + 2#16 })

/-- Push the return address and go to the target: CALL, a taken CALL cc and RST (R266, R267, R271). -/
def callTo (s : State) (returnAddr target : Word) : Result :=
  match push16 s returnAddr with
  | .error f => .fault f
  | .ok t => .next (t.setPc target)

/-- Pop the return address into PC: RET, a taken RET cc and RETI (R268 to R270). There is no other return: the core has no
trap entry and so no trap return (R305, R306). -/
def returnToCaller (s : State) : Result :=
  match pop16 s with
  | .error f => .fault f
  | .ok (w, t) => .next (t.setPc w)

end Sys2Proof.Machine
end

