-- ==== Sys2Proof/Machine/Operands.lean ====
section
/-! DEFINITION. Every operand form of the spec (spec/30_encoding.md R85 to R90): the register field with its memory form,
the ALU source, the high-page address, the signed displacement, the condition, the bit mask and the restart target. -/

namespace Sys2Proof.Machine

/-- Read the operand of the register field: a register or the byte at HL (R85). -/
def State.readOperand (s : State) : Operand8 → Byte
  | .reg r => s.reg r
  | .indHL => s.readByte s.hl

/-- Write the operand of the register field (R85). -/
def State.writeOperand (s : State) (o : Operand8) (v : Byte) : State :=
  match o with
  | .reg r => s.setReg r v
  | .indHL => s.writeByte s.hl v

/-- The right operand of an ALU instruction: register, byte at HL, or immediate (R160). -/
def State.readSource (s : State) : Source8 → Byte
  | .reg r => s.reg r
  | .indHL => s.readByte s.hl
  | .imm n => n

/-- The length of an ALU instruction with the given operand form: format OP or OP_N8 (R81). -/
def sourceLength : Source8 → Nat
  | .reg _ => 1
  | .indHL => 1
  | .imm _ => 2

/-- The address 0xFF00 + n of the one-byte-address loads and stores (R122 to R125, decision D25); at most 0xFFFF. -/
def highPage (n : Byte) : Word := wordOf 0xFF#8 n

/-- `sext_16(e)` reduced mod 65536 (R10): the two's-complement displacement (R88). -/
def sext16 (e : Byte) : Word := e.signExtend 16

/-- The condition, read from the flags before the instruction (R87, R260). -/
def condHolds (f : Flags) : Cond → Bool
  | .nz => !f.fZ
  | .z => f.fZ
  | .nc => !f.fC
  | .c => f.fC

/-- The mask `1 << b` (R90). -/
def bitMask (b : Fin 8) : Byte := 1#8 <<< b.val

/-- The restart target `t * 8` (R89). -/
def restartTarget (t : Fin 8) : Word := BitVec.ofNat 16 (t.val * 8)

end Sys2Proof.Machine
end

