-- ==== Sys2Proof/Machine/Flags.lean ====
section
/-! DEFINITION. Every flag computation of the spec: szp (spec/00_scope.md R11), the 8-bit arithmetic and logic
(spec/42_alu_8bit.md), the 16-bit additions (spec/43_alu_16bit.md), rotates and shifts (spec/44_rotates_shifts.md), BIT
(spec/45_bit_ops.md), and the packing of the flags into the byte F (spec/10_state.md R22). Which instruction writes which
flag is the table of R26. -/

namespace Sys2Proof.Machine

/-- `szp(v)` (R11): Sign is bit 7, Zero is v = 0, Parity is bit 0 clear (evenness). -/
def szp (v : Byte) (f : Flags) : Flags :=
  { f with fS := v.getLsbD 7, fZ := v == 0#8, fP := !v.getLsbD 0 }

/-- `lo4(b)` as a number (R9). -/
def lo4 (v : Byte) : Nat := v.toNat % 16

/-! ### 8-bit arithmetic and logic -/

/-- `Add8(a, v, cin)` (R160): the truncated sum and all five flags. -/
def add8 (a v : Byte) (cin : Bool) : Byte × Flags :=
  let t := a.toNat + v.toNat + cin.toNat
  let res := BitVec.ofNat 8 t
  (res, szp res ⟨false, decide (t > 0xFF), false, decide (lo4 a + lo4 v + cin.toNat > 0xF), false⟩)

/-- `Sub8(a, v, cin)` (R160): the comparisons are on unbounded integers. -/
def sub8 (a v : Byte) (cin : Bool) : Byte × Flags :=
  let res := BitVec.ofInt 8 ((a.toNat : Int) - v.toNat - cin.toNat)
  (res, szp res ⟨false, decide (a.toNat < v.toNat + cin.toNat), false, decide (lo4 a < lo4 v + cin.toNat), false⟩)

/-- AND: HalfCarry forced true, Carry forced false (R160, R173). -/
def and8 (a v : Byte) : Byte × Flags := (a &&& v, szp (a &&& v) ⟨false, false, false, true, false⟩)

/-- XOR: HalfCarry and Carry forced false (R160, R176). -/
def xor8 (a v : Byte) : Byte × Flags := (a ^^^ v, szp (a ^^^ v) ⟨false, false, false, false, false⟩)

/-- OR: HalfCarry and Carry forced false (R160, R179). -/
def or8 (a v : Byte) : Byte × Flags := (a ||| v, szp (a ||| v) ⟨false, false, false, false, false⟩)

/-- The result and flags of an ALU operation; ADC and SBC take the old carry, CP computes the subtraction (R160). -/
def aluResult (op : AluOp) (a v : Byte) (fC : Bool) : Byte × Flags :=
  match op with
  | .add => add8 a v false
  | .adc => add8 a v fC
  | .sub => sub8 a v false
  | .sbc => sub8 a v fC
  | .and => and8 a v
  | .xor => xor8 a v
  | .or => or8 a v
  | .cp => sub8 a v false

/-- What A holds afterwards: the result, but CP discards it and leaves A unchanged (R182). -/
def aluDestination (op : AluOp) (a res : Byte) : Byte :=
  match op with
  | .add => res
  | .adc => res
  | .sub => res
  | .sbc => res
  | .and => res
  | .xor => res
  | .or => res
  | .cp => a

/-- 8-bit INC (R185): HalfCarry when the low nibble of the result is 0; Carry unaffected. -/
def inc8 (v : Byte) (f : Flags) : Byte × Flags :=
  let res := v + 1#8
  (res, { szp res f with fH := lo4 res == 0 })

/-- 8-bit DEC (R187): HalfCarry when the low nibble of the result is 0xF; Carry unaffected. -/
def dec8 (v : Byte) (f : Flags) : Byte × Flags :=
  let res := v - 1#8
  (res, { szp res f with fH := lo4 res == 0xF })

/-- DAA (R189, decision D16): the addition correction, both tests on the old A and the old flags. -/
def daa8 (a : Byte) (f : Flags) : Byte × Flags :=
  let low := f.fH || decide (lo4 a > 9)
  let high := f.fC || decide (a.toNat > 0x99)
  let adj := (if low then 0x06 else 0) + (if high then 0x60 else 0)
  let res := BitVec.ofNat 8 (a.toNat + adj)
  (res, szp res { f with fC := high, fH := false })

/-! ### 16-bit additions -/

/-- ADD HL,rr (R211): Sign and Zero forced false, HalfCarry out of bit 11, Carry out of bit 15, Parity the evenness of the
new H. -/
def add16 (hl w : Word) : Word × Flags :=
  let t := hl.toNat + w.toNat
  let res := BitVec.ofNat 16 t
  (res, ⟨false, decide (t > 0xFFFF), false, decide (hl.toNat % 4096 + w.toNat % 4096 > 0xFFF), !res.getLsbD 8⟩)

/-- SP + e of ADD SP,e and LD HL,SP+e (R144, R214, decision D15): HalfCarry and Carry from the low-byte addition with e
taken as an unsigned byte, Parity the evenness of the result's high byte. -/
def addDisplacement (sp : Word) (e : Byte) : Word × Flags :=
  let res := sp + sext16 e
  (res, ⟨false, decide (sp.toNat % 256 + e.toNat > 0xFF), false, decide (sp.toNat % 16 + lo4 e > 0xF), !res.getLsbD 8⟩)

/-! ### Rotates, shifts, SWAP -/

/-- The result byte and the bit that leaves (R220); SWAP moves no bit out and forces Carry false. -/
def rotate (op : RotOp) (v : Byte) (cin : Bool) : Byte × Bool :=
  match op with
  | .rlc => (v.extractLsb' 0 7 ++ v.extractLsb' 7 1, v.getLsbD 7)
  | .rrc => (v.extractLsb' 0 1 ++ v.extractLsb' 1 7, v.getLsbD 0)
  | .rl => (v.extractLsb' 0 7 ++ BitVec.ofBool cin, v.getLsbD 7)
  | .rr => (BitVec.ofBool cin ++ v.extractLsb' 1 7, v.getLsbD 0)
  | .sla => (v.extractLsb' 0 7 ++ 0#1, v.getLsbD 7)
  | .sra => (v.extractLsb' 7 1 ++ v.extractLsb' 1 7, v.getLsbD 0)
  | .swap => (v.extractLsb' 0 4 ++ v.extractLsb' 4 4, false)
  | .srl => (0#1 ++ v.extractLsb' 1 7, v.getLsbD 0)

/-- The flags of a CB-prefixed rotate, shift or SWAP (R220). -/
def rotateFlags (res : Byte) (out : Bool) : Flags := szp res ⟨false, out, false, false, false⟩

/-- The flags of the four accumulator rotates: all but Carry forced false, whatever the result (R220). -/
def accumulatorRotateFlags (out : Bool) : Flags := ⟨false, out, false, false, false⟩

/-! ### BIT -/

/-- BIT (R251, decision D18): Sign, Zero and Parity of the masked value, HalfCarry true, Carry unaffected. -/
def bitFlags (masked : Byte) (f : Flags) : Flags := { szp masked f with fH := true }

/-! ### The byte F -/

/-- The parameter pair FPACK, FUNPACK (R22, decision D5). -/
structure FlagPacking where
  /-- FPACK -/
  pack : Flags → Byte
  /-- FUNPACK -/
  unpack : Byte → Flags

/-- The one law a packing must meet: FUNPACK(FPACK(f)) = f (R22). -/
def FlagPacking.Lawful (p : FlagPacking) : Prop := ∀ f : Flags, p.unpack (p.pack f) = f

/-- The default FPACK: Z bit 7, H bit 5, C bit 4, S bit 3, P bit 2, bits 6, 1 and 0 zero (R22, decision D5). -/
def fpack (f : Flags) : Byte :=
  BitVec.ofBool f.fZ ++ 0#1 ++ BitVec.ofBool f.fH ++ BitVec.ofBool f.fC ++ BitVec.ofBool f.fS ++ BitVec.ofBool f.fP ++ 0#2

/-- The default FUNPACK: bits 6, 1 and 0 ignored (R22). -/
def funpack (v : Byte) : Flags :=
  { fZ := v.getLsbD 7, fC := v.getLsbD 4, fS := v.getLsbD 3, fH := v.getLsbD 5, fP := v.getLsbD 2 }

/-- The packing the machine runs with: the spec's default instance. DESIGN CHOICE of the spec, unsafe: log entry 1. -/
def flagPacking : FlagPacking := ⟨fpack, funpack⟩

/-- AF as PUSH AF sees it under a packing (R22). -/
def State.afWith (s : State) (p : FlagPacking) : Word := wordOf s.a (p.pack s.flags)

/-- A write to AF as POP AF does it under a packing (R22, R148). -/
def State.setAfWith (s : State) (p : FlagPacking) (w : Word) : State :=
  { s with a := hi8 w, flags := p.unpack (lo8 w) }

end Sys2Proof.Machine
end

