-- ==== Sys2Proof/Machine/Loads16.lean ====
section
/-! DEFINITION. 16-bit loads and the stack (spec/41_loads_16bit_stack.md R140 to R148). -/

namespace Sys2Proof.Machine

/-- A pair or SP receives a word (R141, R143). -/
def loadPair (p : Pair) (w : Word) (len : Nat) (s : State) : Result := .next ((s.setPair p w).advance len)

/-- `LD (nn),SP`: low byte of SP at nn, high byte at nn + 1, whose address is not wrapped (R142, R56, decision D21). -/
def storeSp (nn : Word) (s : State) : Result :=
  match memWrite s (nn.toNat : Int) (lo8 s.sp) with
  | .error f => .fault f
  | .ok s1 =>
    match memWrite s1 ((nn.toNat : Int) + 1) (hi8 s.sp) with
    | .error f => .fault f
    | .ok s2 => .next (s2.advance 3)

/-- SP + e with its flags goes to HL (R144) or to SP (R214). -/
def addToSp (dst : Pair) (e : Byte) (s : State) : Result :=
  .next (((s.setPair dst (addDisplacement s.sp e).1).setFlags (addDisplacement s.sp e).2).advance 2)

/-- Push a word and move past the one-byte instruction (R145). -/
def pushWord (w : Word) (s : State) : Result :=
  match push16 s w with
  | .error f => .fault f
  | .ok t => .next (t.advance 1)

/-- `PUSH AF` under a packing of the flags (R146, R22). -/
def pushAfWith (p : FlagPacking) (s : State) : Result := pushWord (s.afWith p) s

/-- `POP rr`: BC, DE or HL (R147). -/
def popPair (dst : Pair) (s : State) : Result :=
  match pop16 s with
  | .error f => .fault f
  | .ok (w, t) => .next ((t.setPair dst w).advance 1)

/-- `POP AF` under a packing of the flags (R148, R22). -/
def popAfWith (p : FlagPacking) (s : State) : Result :=
  match pop16 s with
  | .error f => .fault f
  | .ok (w, t) => .next ((t.setAfWith p w).advance 1)

/-- `LD BC,nn` (0x01), R141. -/
def execLdBC_nn (nn : Word) (s : State) : Result := loadPair .bc nn 3 s

/-- `LD (nn),SP` (0x08), R142. -/
def execLdIndNN_SP (nn : Word) (s : State) : Result := storeSp nn s

/-- `LD DE,nn` (0x11), R141. -/
def execLdDE_nn (nn : Word) (s : State) : Result := loadPair .de nn 3 s

/-- `LD HL,nn` (0x21), R141. -/
def execLdHL_nn (nn : Word) (s : State) : Result := loadPair .hl nn 3 s

/-- `LD SP,nn` (0x31), R141. -/
def execLdSP_nn (nn : Word) (s : State) : Result := loadPair .sp nn 3 s

/-- `POP BC` (0xC1), R147. -/
def execPopBC (s : State) : Result := popPair .bc s

/-- `PUSH BC` (0xC5), R145. -/
def execPushBC (s : State) : Result := pushWord (s.pair .bc) s

/-- `POP DE` (0xD1), R147. -/
def execPopDE (s : State) : Result := popPair .de s

/-- `PUSH DE` (0xD5), R145. -/
def execPushDE (s : State) : Result := pushWord (s.pair .de) s

/-- `POP HL` (0xE1), R147. -/
def execPopHL (s : State) : Result := popPair .hl s

/-- `PUSH HL` (0xE5), R145. -/
def execPushHL (s : State) : Result := pushWord (s.pair .hl) s

/-- `POP AF` (0xF1), R148. -/
def execPopAF (s : State) : Result := popAfWith flagPacking s

/-- `PUSH AF` (0xF5), R146. -/
def execPushAF (s : State) : Result := pushAfWith flagPacking s

/-- `LD HL,SP+e` (0xF8), R144. -/
def execLdHL_SPe (e : Byte) (s : State) : Result := addToSp .hl e s

/-- `LD SP,HL` (0xF9), R143. -/
def execLdSP_HL (s : State) : Result := loadPair .sp s.hl 1 s

end Sys2Proof.Machine
end

