-- ==== Sys2Proof/Machine/Alu16.lean ====
section
/-! DEFINITION. 16-bit arithmetic (spec/43_alu_16bit.md R210 to R214). -/

namespace Sys2Proof.Machine

/-- `ADD HL,rr` (R211). -/
def addToHL (p : Pair) (s : State) : Result :=
  .next (((s.setHL (add16 s.hl (s.pair p)).1).setFlags (add16 s.hl (s.pair p)).2).advance 1)

/-- `INC rr` and `DEC rr`: the pair takes its new value, no flag is written (R212, R213, decision D13). -/
def stepPair (p : Pair) (w : Word) (s : State) : Result := .next ((s.setPair p w).advance 1)

/-- `INC BC` (0x03), R212. -/
def execIncBC (s : State) : Result := stepPair .bc (s.pair .bc + 1#16) s

/-- `ADD HL,BC` (0x09), R211. -/
def execAddHL_BC (s : State) : Result := addToHL .bc s

/-- `DEC BC` (0x0B), R213. -/
def execDecBC (s : State) : Result := stepPair .bc (s.pair .bc - 1#16) s

/-- `INC DE` (0x13), R212. -/
def execIncDE (s : State) : Result := stepPair .de (s.pair .de + 1#16) s

/-- `ADD HL,DE` (0x19), R211. -/
def execAddHL_DE (s : State) : Result := addToHL .de s

/-- `DEC DE` (0x1B), R213. -/
def execDecDE (s : State) : Result := stepPair .de (s.pair .de - 1#16) s

/-- `INC HL` (0x23), R212. -/
def execIncHL (s : State) : Result := stepPair .hl (s.pair .hl + 1#16) s

/-- `ADD HL,HL` (0x29), R211. -/
def execAddHL_HL (s : State) : Result := addToHL .hl s

/-- `DEC HL` (0x2B), R213. -/
def execDecHL (s : State) : Result := stepPair .hl (s.pair .hl - 1#16) s

/-- `INC SP` (0x33), R212. -/
def execIncSP (s : State) : Result := stepPair .sp (s.pair .sp + 1#16) s

/-- `ADD HL,SP` (0x39), R211. -/
def execAddHL_SP (s : State) : Result := addToHL .sp s

/-- `DEC SP` (0x3B), R213. -/
def execDecSP (s : State) : Result := stepPair .sp (s.pair .sp - 1#16) s

/-- `ADD SP,e` (0xE8), R214. -/
def execAddSP_e (e : Byte) (s : State) : Result := addToSp .sp e s

end Sys2Proof.Machine
end

