-- ==== Sys2Proof/Machine/Alu8.lean ====
section
/-! DEFINITION. 8-bit arithmetic and logic (spec/42_alu_8bit.md R160 to R192). -/

namespace Sys2Proof.Machine

/-- An ALU instruction: the operand is read before A is written; all five flags written; CP leaves A (R160). -/
def aluStep (op : AluOp) (src : Source8) (s : State) : Result :=
  let res := aluResult op s.a (s.readSource src) s.flags.fC
  .next (((s.setReg .a (aluDestination op s.a res.1)).setFlags res.2).advance (sourceLength src))

/-- `INC r`, `INC (HL)` (R185, R186). -/
def incOperand (o : Operand8) (s : State) : Result :=
  let res := inc8 (s.readOperand o) s.flags
  .next (((s.writeOperand o res.1).setFlags res.2).advance 1)

/-- `DEC r`, `DEC (HL)` (R187, R188). -/
def decOperand (o : Operand8) (s : State) : Result :=
  let res := dec8 (s.readOperand o) s.flags
  .next (((s.writeOperand o res.1).setFlags res.2).advance 1)

/-- The one-byte operations on A and the flags: DAA, CPL, SCF, CCF (R189 to R192). -/
def writeA (res : Byte × Flags) (s : State) : Result := .next (((s.setReg .a res.1).setFlags res.2).advance 1)

/-- `INC B` (0x04), R185. -/
def execIncB (s : State) : Result := incOperand (.reg .b) s

/-- `DEC B` (0x05), R187. -/
def execDecB (s : State) : Result := decOperand (.reg .b) s

/-- `INC C` (0x0C), R185. -/
def execIncC (s : State) : Result := incOperand (.reg .c) s

/-- `DEC C` (0x0D), R187. -/
def execDecC (s : State) : Result := decOperand (.reg .c) s

/-- `INC D` (0x14), R185. -/
def execIncD (s : State) : Result := incOperand (.reg .d) s

/-- `DEC D` (0x15), R187. -/
def execDecD (s : State) : Result := decOperand (.reg .d) s

/-- `INC E` (0x1C), R185. -/
def execIncE (s : State) : Result := incOperand (.reg .e) s

/-- `DEC E` (0x1D), R187. -/
def execDecE (s : State) : Result := decOperand (.reg .e) s

/-- `INC H` (0x24), R185. -/
def execIncH (s : State) : Result := incOperand (.reg .h) s

/-- `DEC H` (0x25), R187. -/
def execDecH (s : State) : Result := decOperand (.reg .h) s

/-- `DAA` (0x27), R189. -/
def execDaa (s : State) : Result := writeA (daa8 s.a s.flags) s

/-- `INC L` (0x2C), R185. -/
def execIncL (s : State) : Result := incOperand (.reg .l) s

/-- `DEC L` (0x2D), R187. -/
def execDecL (s : State) : Result := decOperand (.reg .l) s

/-- `CPL` (0x2F), R190. -/
def execCpl (s : State) : Result := writeA (s.a ^^^ 0xFF#8, { s.flags with fH := true }) s

/-- `INC (HL)` (0x34), R186. -/
def execIncIndHL (s : State) : Result := incOperand .indHL s

/-- `DEC (HL)` (0x35), R188. -/
def execDecIndHL (s : State) : Result := decOperand .indHL s

/-- `SCF` (0x37), R191. -/
def execScf (s : State) : Result := writeA (s.a, { s.flags with fC := true, fH := false }) s

/-- `INC A` (0x3C), R185. -/
def execIncA (s : State) : Result := incOperand (.reg .a) s

/-- `DEC A` (0x3D), R187. -/
def execDecA (s : State) : Result := decOperand (.reg .a) s

/-- `CCF` (0x3F), R192. -/
def execCcf (s : State) : Result := writeA (s.a, { s.flags with fC := !s.flags.fC, fH := false }) s

/-- `ADD A,B` (0x80), R161. -/
def execAddA_B (s : State) : Result := aluStep .add (.reg .b) s

/-- `ADD A,C` (0x81), R161. -/
def execAddA_C (s : State) : Result := aluStep .add (.reg .c) s

/-- `ADD A,D` (0x82), R161. -/
def execAddA_D (s : State) : Result := aluStep .add (.reg .d) s

/-- `ADD A,E` (0x83), R161. -/
def execAddA_E (s : State) : Result := aluStep .add (.reg .e) s

/-- `ADD A,H` (0x84), R161. -/
def execAddA_H (s : State) : Result := aluStep .add (.reg .h) s

/-- `ADD A,L` (0x85), R161. -/
def execAddA_L (s : State) : Result := aluStep .add (.reg .l) s

/-- `ADD A,(HL)` (0x86), R162. -/
def execAddA_IndHL (s : State) : Result := aluStep .add .indHL s

/-- `ADD A,A` (0x87), R161. -/
def execAddA_A (s : State) : Result := aluStep .add (.reg .a) s

/-- `ADC A,B` (0x88), R164. -/
def execAdcA_B (s : State) : Result := aluStep .adc (.reg .b) s

/-- `ADC A,C` (0x89), R164. -/
def execAdcA_C (s : State) : Result := aluStep .adc (.reg .c) s

/-- `ADC A,D` (0x8A), R164. -/
def execAdcA_D (s : State) : Result := aluStep .adc (.reg .d) s

/-- `ADC A,E` (0x8B), R164. -/
def execAdcA_E (s : State) : Result := aluStep .adc (.reg .e) s

/-- `ADC A,H` (0x8C), R164. -/
def execAdcA_H (s : State) : Result := aluStep .adc (.reg .h) s

/-- `ADC A,L` (0x8D), R164. -/
def execAdcA_L (s : State) : Result := aluStep .adc (.reg .l) s

/-- `ADC A,(HL)` (0x8E), R165. -/
def execAdcA_IndHL (s : State) : Result := aluStep .adc .indHL s

/-- `ADC A,A` (0x8F), R164. -/
def execAdcA_A (s : State) : Result := aluStep .adc (.reg .a) s

/-- `SUB B` (0x90), R167. -/
def execSubB (s : State) : Result := aluStep .sub (.reg .b) s

/-- `SUB C` (0x91), R167. -/
def execSubC (s : State) : Result := aluStep .sub (.reg .c) s

/-- `SUB D` (0x92), R167. -/
def execSubD (s : State) : Result := aluStep .sub (.reg .d) s

/-- `SUB E` (0x93), R167. -/
def execSubE (s : State) : Result := aluStep .sub (.reg .e) s

/-- `SUB H` (0x94), R167. -/
def execSubH (s : State) : Result := aluStep .sub (.reg .h) s

/-- `SUB L` (0x95), R167. -/
def execSubL (s : State) : Result := aluStep .sub (.reg .l) s

/-- `SUB (HL)` (0x96), R168. -/
def execSubIndHL (s : State) : Result := aluStep .sub .indHL s

/-- `SUB A` (0x97), R167. -/
def execSubA (s : State) : Result := aluStep .sub (.reg .a) s

/-- `SBC A,B` (0x98), R170. -/
def execSbcA_B (s : State) : Result := aluStep .sbc (.reg .b) s

/-- `SBC A,C` (0x99), R170. -/
def execSbcA_C (s : State) : Result := aluStep .sbc (.reg .c) s

/-- `SBC A,D` (0x9A), R170. -/
def execSbcA_D (s : State) : Result := aluStep .sbc (.reg .d) s

/-- `SBC A,E` (0x9B), R170. -/
def execSbcA_E (s : State) : Result := aluStep .sbc (.reg .e) s

/-- `SBC A,H` (0x9C), R170. -/
def execSbcA_H (s : State) : Result := aluStep .sbc (.reg .h) s

/-- `SBC A,L` (0x9D), R170. -/
def execSbcA_L (s : State) : Result := aluStep .sbc (.reg .l) s

/-- `SBC A,(HL)` (0x9E), R171. -/
def execSbcA_IndHL (s : State) : Result := aluStep .sbc .indHL s

/-- `SBC A,A` (0x9F), R170. -/
def execSbcA_A (s : State) : Result := aluStep .sbc (.reg .a) s

/-- `AND B` (0xA0), R173. -/
def execAndB (s : State) : Result := aluStep .and (.reg .b) s

/-- `AND C` (0xA1), R173. -/
def execAndC (s : State) : Result := aluStep .and (.reg .c) s

/-- `AND D` (0xA2), R173. -/
def execAndD (s : State) : Result := aluStep .and (.reg .d) s

/-- `AND E` (0xA3), R173. -/
def execAndE (s : State) : Result := aluStep .and (.reg .e) s

/-- `AND H` (0xA4), R173. -/
def execAndH (s : State) : Result := aluStep .and (.reg .h) s

/-- `AND L` (0xA5), R173. -/
def execAndL (s : State) : Result := aluStep .and (.reg .l) s

/-- `AND (HL)` (0xA6), R174. -/
def execAndIndHL (s : State) : Result := aluStep .and .indHL s

/-- `AND A` (0xA7), R173. -/
def execAndA (s : State) : Result := aluStep .and (.reg .a) s

/-- `XOR B` (0xA8), R176. -/
def execXorB (s : State) : Result := aluStep .xor (.reg .b) s

/-- `XOR C` (0xA9), R176. -/
def execXorC (s : State) : Result := aluStep .xor (.reg .c) s

/-- `XOR D` (0xAA), R176. -/
def execXorD (s : State) : Result := aluStep .xor (.reg .d) s

/-- `XOR E` (0xAB), R176. -/
def execXorE (s : State) : Result := aluStep .xor (.reg .e) s

/-- `XOR H` (0xAC), R176. -/
def execXorH (s : State) : Result := aluStep .xor (.reg .h) s

/-- `XOR L` (0xAD), R176. -/
def execXorL (s : State) : Result := aluStep .xor (.reg .l) s

/-- `XOR (HL)` (0xAE), R177. -/
def execXorIndHL (s : State) : Result := aluStep .xor .indHL s

/-- `XOR A` (0xAF), R176. -/
def execXorA (s : State) : Result := aluStep .xor (.reg .a) s

/-- `OR B` (0xB0), R179. -/
def execOrB (s : State) : Result := aluStep .or (.reg .b) s

/-- `OR C` (0xB1), R179. -/
def execOrC (s : State) : Result := aluStep .or (.reg .c) s

/-- `OR D` (0xB2), R179. -/
def execOrD (s : State) : Result := aluStep .or (.reg .d) s

/-- `OR E` (0xB3), R179. -/
def execOrE (s : State) : Result := aluStep .or (.reg .e) s

/-- `OR H` (0xB4), R179. -/
def execOrH (s : State) : Result := aluStep .or (.reg .h) s

/-- `OR L` (0xB5), R179. -/
def execOrL (s : State) : Result := aluStep .or (.reg .l) s

/-- `OR (HL)` (0xB6), R180. -/
def execOrIndHL (s : State) : Result := aluStep .or .indHL s

/-- `OR A` (0xB7), R179. -/
def execOrA (s : State) : Result := aluStep .or (.reg .a) s

/-- `CP B` (0xB8), R182. -/
def execCpB (s : State) : Result := aluStep .cp (.reg .b) s

/-- `CP C` (0xB9), R182. -/
def execCpC (s : State) : Result := aluStep .cp (.reg .c) s

/-- `CP D` (0xBA), R182. -/
def execCpD (s : State) : Result := aluStep .cp (.reg .d) s

/-- `CP E` (0xBB), R182. -/
def execCpE (s : State) : Result := aluStep .cp (.reg .e) s

/-- `CP H` (0xBC), R182. -/
def execCpH (s : State) : Result := aluStep .cp (.reg .h) s

/-- `CP L` (0xBD), R182. -/
def execCpL (s : State) : Result := aluStep .cp (.reg .l) s

/-- `CP (HL)` (0xBE), R183. -/
def execCpIndHL (s : State) : Result := aluStep .cp .indHL s

/-- `CP A` (0xBF), R182. -/
def execCpA (s : State) : Result := aluStep .cp (.reg .a) s

/-- `ADD A,n` (0xC6), R163. -/
def execAddA_n (n : Byte) (s : State) : Result := aluStep .add (.imm n) s

/-- `ADC A,n` (0xCE), R166. -/
def execAdcA_n (n : Byte) (s : State) : Result := aluStep .adc (.imm n) s

/-- `SUB n` (0xD6), R169. -/
def execSub_n (n : Byte) (s : State) : Result := aluStep .sub (.imm n) s

/-- `SBC A,n` (0xDE), R172. -/
def execSbcA_n (n : Byte) (s : State) : Result := aluStep .sbc (.imm n) s

/-- `AND n` (0xE6), R175. -/
def execAnd_n (n : Byte) (s : State) : Result := aluStep .and (.imm n) s

/-- `XOR n` (0xEE), R178. -/
def execXor_n (n : Byte) (s : State) : Result := aluStep .xor (.imm n) s

/-- `OR n` (0xF6), R181. -/
def execOr_n (n : Byte) (s : State) : Result := aluStep .or (.imm n) s

/-- `CP n` (0xFE), R184. -/
def execCp_n (n : Byte) (s : State) : Result := aluStep .cp (.imm n) s

end Sys2Proof.Machine
end

