-- ==== Sys2Proof/Machine/Bits.lean ====
section
/-! DEFINITION. BIT, RES and SET (spec/45_bit_ops.md R250 to R256). -/

namespace Sys2Proof.Machine

/-- `BIT b,x`: flags of the masked value; no register and no memory is written (R251, R252). -/
def testBit (b : Fin 8) (o : Operand8) (s : State) : Result :=
  .next ((s.setFlags (bitFlags (s.readOperand o &&& bitMask b) s.flags)).advance 2)

/-- `RES b,x`: clear the bit, no flag (R253, R254, decision D19). -/
def clearBit (b : Fin 8) (o : Operand8) (s : State) : Result :=
  .next ((s.writeOperand o (s.readOperand o &&& ~~~bitMask b)).advance 2)

/-- `SET b,x`: set the bit, no flag (R255, R256, decision D19). -/
def setBit (b : Fin 8) (o : Operand8) (s : State) : Result :=
  .next ((s.writeOperand o (s.readOperand o ||| bitMask b)).advance 2)

/-- `BIT 0,B` (CB 40), R251. -/
def execBit0_B (s : State) : Result := testBit 0 (.reg .b) s

/-- `BIT 0,C` (CB 41), R251. -/
def execBit0_C (s : State) : Result := testBit 0 (.reg .c) s

/-- `BIT 0,D` (CB 42), R251. -/
def execBit0_D (s : State) : Result := testBit 0 (.reg .d) s

/-- `BIT 0,E` (CB 43), R251. -/
def execBit0_E (s : State) : Result := testBit 0 (.reg .e) s

/-- `BIT 0,H` (CB 44), R251. -/
def execBit0_H (s : State) : Result := testBit 0 (.reg .h) s

/-- `BIT 0,L` (CB 45), R251. -/
def execBit0_L (s : State) : Result := testBit 0 (.reg .l) s

/-- `BIT 0,(HL)` (CB 46), R252. -/
def execBit0_IndHL (s : State) : Result := testBit 0 .indHL s

/-- `BIT 0,A` (CB 47), R251. -/
def execBit0_A (s : State) : Result := testBit 0 (.reg .a) s

/-- `BIT 1,B` (CB 48), R251. -/
def execBit1_B (s : State) : Result := testBit 1 (.reg .b) s

/-- `BIT 1,C` (CB 49), R251. -/
def execBit1_C (s : State) : Result := testBit 1 (.reg .c) s

/-- `BIT 1,D` (CB 4A), R251. -/
def execBit1_D (s : State) : Result := testBit 1 (.reg .d) s

/-- `BIT 1,E` (CB 4B), R251. -/
def execBit1_E (s : State) : Result := testBit 1 (.reg .e) s

/-- `BIT 1,H` (CB 4C), R251. -/
def execBit1_H (s : State) : Result := testBit 1 (.reg .h) s

/-- `BIT 1,L` (CB 4D), R251. -/
def execBit1_L (s : State) : Result := testBit 1 (.reg .l) s

/-- `BIT 1,(HL)` (CB 4E), R252. -/
def execBit1_IndHL (s : State) : Result := testBit 1 .indHL s

/-- `BIT 1,A` (CB 4F), R251. -/
def execBit1_A (s : State) : Result := testBit 1 (.reg .a) s

/-- `BIT 2,B` (CB 50), R251. -/
def execBit2_B (s : State) : Result := testBit 2 (.reg .b) s

/-- `BIT 2,C` (CB 51), R251. -/
def execBit2_C (s : State) : Result := testBit 2 (.reg .c) s

/-- `BIT 2,D` (CB 52), R251. -/
def execBit2_D (s : State) : Result := testBit 2 (.reg .d) s

/-- `BIT 2,E` (CB 53), R251. -/
def execBit2_E (s : State) : Result := testBit 2 (.reg .e) s

/-- `BIT 2,H` (CB 54), R251. -/
def execBit2_H (s : State) : Result := testBit 2 (.reg .h) s

/-- `BIT 2,L` (CB 55), R251. -/
def execBit2_L (s : State) : Result := testBit 2 (.reg .l) s

/-- `BIT 2,(HL)` (CB 56), R252. -/
def execBit2_IndHL (s : State) : Result := testBit 2 .indHL s

/-- `BIT 2,A` (CB 57), R251. -/
def execBit2_A (s : State) : Result := testBit 2 (.reg .a) s

/-- `BIT 3,B` (CB 58), R251. -/
def execBit3_B (s : State) : Result := testBit 3 (.reg .b) s

/-- `BIT 3,C` (CB 59), R251. -/
def execBit3_C (s : State) : Result := testBit 3 (.reg .c) s

/-- `BIT 3,D` (CB 5A), R251. -/
def execBit3_D (s : State) : Result := testBit 3 (.reg .d) s

/-- `BIT 3,E` (CB 5B), R251. -/
def execBit3_E (s : State) : Result := testBit 3 (.reg .e) s

/-- `BIT 3,H` (CB 5C), R251. -/
def execBit3_H (s : State) : Result := testBit 3 (.reg .h) s

/-- `BIT 3,L` (CB 5D), R251. -/
def execBit3_L (s : State) : Result := testBit 3 (.reg .l) s

/-- `BIT 3,(HL)` (CB 5E), R252. -/
def execBit3_IndHL (s : State) : Result := testBit 3 .indHL s

/-- `BIT 3,A` (CB 5F), R251. -/
def execBit3_A (s : State) : Result := testBit 3 (.reg .a) s

/-- `BIT 4,B` (CB 60), R251. -/
def execBit4_B (s : State) : Result := testBit 4 (.reg .b) s

/-- `BIT 4,C` (CB 61), R251. -/
def execBit4_C (s : State) : Result := testBit 4 (.reg .c) s

/-- `BIT 4,D` (CB 62), R251. -/
def execBit4_D (s : State) : Result := testBit 4 (.reg .d) s

/-- `BIT 4,E` (CB 63), R251. -/
def execBit4_E (s : State) : Result := testBit 4 (.reg .e) s

/-- `BIT 4,H` (CB 64), R251. -/
def execBit4_H (s : State) : Result := testBit 4 (.reg .h) s

/-- `BIT 4,L` (CB 65), R251. -/
def execBit4_L (s : State) : Result := testBit 4 (.reg .l) s

/-- `BIT 4,(HL)` (CB 66), R252. -/
def execBit4_IndHL (s : State) : Result := testBit 4 .indHL s

/-- `BIT 4,A` (CB 67), R251. -/
def execBit4_A (s : State) : Result := testBit 4 (.reg .a) s

/-- `BIT 5,B` (CB 68), R251. -/
def execBit5_B (s : State) : Result := testBit 5 (.reg .b) s

/-- `BIT 5,C` (CB 69), R251. -/
def execBit5_C (s : State) : Result := testBit 5 (.reg .c) s

/-- `BIT 5,D` (CB 6A), R251. -/
def execBit5_D (s : State) : Result := testBit 5 (.reg .d) s

/-- `BIT 5,E` (CB 6B), R251. -/
def execBit5_E (s : State) : Result := testBit 5 (.reg .e) s

/-- `BIT 5,H` (CB 6C), R251. -/
def execBit5_H (s : State) : Result := testBit 5 (.reg .h) s

/-- `BIT 5,L` (CB 6D), R251. -/
def execBit5_L (s : State) : Result := testBit 5 (.reg .l) s

/-- `BIT 5,(HL)` (CB 6E), R252. -/
def execBit5_IndHL (s : State) : Result := testBit 5 .indHL s

/-- `BIT 5,A` (CB 6F), R251. -/
def execBit5_A (s : State) : Result := testBit 5 (.reg .a) s

/-- `BIT 6,B` (CB 70), R251. -/
def execBit6_B (s : State) : Result := testBit 6 (.reg .b) s

/-- `BIT 6,C` (CB 71), R251. -/
def execBit6_C (s : State) : Result := testBit 6 (.reg .c) s

/-- `BIT 6,D` (CB 72), R251. -/
def execBit6_D (s : State) : Result := testBit 6 (.reg .d) s

/-- `BIT 6,E` (CB 73), R251. -/
def execBit6_E (s : State) : Result := testBit 6 (.reg .e) s

/-- `BIT 6,H` (CB 74), R251. -/
def execBit6_H (s : State) : Result := testBit 6 (.reg .h) s

/-- `BIT 6,L` (CB 75), R251. -/
def execBit6_L (s : State) : Result := testBit 6 (.reg .l) s

/-- `BIT 6,(HL)` (CB 76), R252. -/
def execBit6_IndHL (s : State) : Result := testBit 6 .indHL s

/-- `BIT 6,A` (CB 77), R251. -/
def execBit6_A (s : State) : Result := testBit 6 (.reg .a) s

/-- `BIT 7,B` (CB 78), R251. -/
def execBit7_B (s : State) : Result := testBit 7 (.reg .b) s

/-- `BIT 7,C` (CB 79), R251. -/
def execBit7_C (s : State) : Result := testBit 7 (.reg .c) s

/-- `BIT 7,D` (CB 7A), R251. -/
def execBit7_D (s : State) : Result := testBit 7 (.reg .d) s

/-- `BIT 7,E` (CB 7B), R251. -/
def execBit7_E (s : State) : Result := testBit 7 (.reg .e) s

/-- `BIT 7,H` (CB 7C), R251. -/
def execBit7_H (s : State) : Result := testBit 7 (.reg .h) s

/-- `BIT 7,L` (CB 7D), R251. -/
def execBit7_L (s : State) : Result := testBit 7 (.reg .l) s

/-- `BIT 7,(HL)` (CB 7E), R252. -/
def execBit7_IndHL (s : State) : Result := testBit 7 .indHL s

/-- `BIT 7,A` (CB 7F), R251. -/
def execBit7_A (s : State) : Result := testBit 7 (.reg .a) s

/-- `RES 0,B` (CB 80), R253. -/
def execRes0_B (s : State) : Result := clearBit 0 (.reg .b) s

/-- `RES 0,C` (CB 81), R253. -/
def execRes0_C (s : State) : Result := clearBit 0 (.reg .c) s

/-- `RES 0,D` (CB 82), R253. -/
def execRes0_D (s : State) : Result := clearBit 0 (.reg .d) s

/-- `RES 0,E` (CB 83), R253. -/
def execRes0_E (s : State) : Result := clearBit 0 (.reg .e) s

/-- `RES 0,H` (CB 84), R253. -/
def execRes0_H (s : State) : Result := clearBit 0 (.reg .h) s

/-- `RES 0,L` (CB 85), R253. -/
def execRes0_L (s : State) : Result := clearBit 0 (.reg .l) s

/-- `RES 0,(HL)` (CB 86), R254. -/
def execRes0_IndHL (s : State) : Result := clearBit 0 .indHL s

/-- `RES 0,A` (CB 87), R253. -/
def execRes0_A (s : State) : Result := clearBit 0 (.reg .a) s

/-- `RES 1,B` (CB 88), R253. -/
def execRes1_B (s : State) : Result := clearBit 1 (.reg .b) s

/-- `RES 1,C` (CB 89), R253. -/
def execRes1_C (s : State) : Result := clearBit 1 (.reg .c) s

/-- `RES 1,D` (CB 8A), R253. -/
def execRes1_D (s : State) : Result := clearBit 1 (.reg .d) s

/-- `RES 1,E` (CB 8B), R253. -/
def execRes1_E (s : State) : Result := clearBit 1 (.reg .e) s

/-- `RES 1,H` (CB 8C), R253. -/
def execRes1_H (s : State) : Result := clearBit 1 (.reg .h) s

/-- `RES 1,L` (CB 8D), R253. -/
def execRes1_L (s : State) : Result := clearBit 1 (.reg .l) s

/-- `RES 1,(HL)` (CB 8E), R254. -/
def execRes1_IndHL (s : State) : Result := clearBit 1 .indHL s

/-- `RES 1,A` (CB 8F), R253. -/
def execRes1_A (s : State) : Result := clearBit 1 (.reg .a) s

/-- `RES 2,B` (CB 90), R253. -/
def execRes2_B (s : State) : Result := clearBit 2 (.reg .b) s

/-- `RES 2,C` (CB 91), R253. -/
def execRes2_C (s : State) : Result := clearBit 2 (.reg .c) s

/-- `RES 2,D` (CB 92), R253. -/
def execRes2_D (s : State) : Result := clearBit 2 (.reg .d) s

/-- `RES 2,E` (CB 93), R253. -/
def execRes2_E (s : State) : Result := clearBit 2 (.reg .e) s

/-- `RES 2,H` (CB 94), R253. -/
def execRes2_H (s : State) : Result := clearBit 2 (.reg .h) s

/-- `RES 2,L` (CB 95), R253. -/
def execRes2_L (s : State) : Result := clearBit 2 (.reg .l) s

/-- `RES 2,(HL)` (CB 96), R254. -/
def execRes2_IndHL (s : State) : Result := clearBit 2 .indHL s

/-- `RES 2,A` (CB 97), R253. -/
def execRes2_A (s : State) : Result := clearBit 2 (.reg .a) s

/-- `RES 3,B` (CB 98), R253. -/
def execRes3_B (s : State) : Result := clearBit 3 (.reg .b) s

/-- `RES 3,C` (CB 99), R253. -/
def execRes3_C (s : State) : Result := clearBit 3 (.reg .c) s

/-- `RES 3,D` (CB 9A), R253. -/
def execRes3_D (s : State) : Result := clearBit 3 (.reg .d) s

/-- `RES 3,E` (CB 9B), R253. -/
def execRes3_E (s : State) : Result := clearBit 3 (.reg .e) s

/-- `RES 3,H` (CB 9C), R253. -/
def execRes3_H (s : State) : Result := clearBit 3 (.reg .h) s

/-- `RES 3,L` (CB 9D), R253. -/
def execRes3_L (s : State) : Result := clearBit 3 (.reg .l) s

/-- `RES 3,(HL)` (CB 9E), R254. -/
def execRes3_IndHL (s : State) : Result := clearBit 3 .indHL s

/-- `RES 3,A` (CB 9F), R253. -/
def execRes3_A (s : State) : Result := clearBit 3 (.reg .a) s

/-- `RES 4,B` (CB A0), R253. -/
def execRes4_B (s : State) : Result := clearBit 4 (.reg .b) s

/-- `RES 4,C` (CB A1), R253. -/
def execRes4_C (s : State) : Result := clearBit 4 (.reg .c) s

/-- `RES 4,D` (CB A2), R253. -/
def execRes4_D (s : State) : Result := clearBit 4 (.reg .d) s

/-- `RES 4,E` (CB A3), R253. -/
def execRes4_E (s : State) : Result := clearBit 4 (.reg .e) s

/-- `RES 4,H` (CB A4), R253. -/
def execRes4_H (s : State) : Result := clearBit 4 (.reg .h) s

/-- `RES 4,L` (CB A5), R253. -/
def execRes4_L (s : State) : Result := clearBit 4 (.reg .l) s

/-- `RES 4,(HL)` (CB A6), R254. -/
def execRes4_IndHL (s : State) : Result := clearBit 4 .indHL s

/-- `RES 4,A` (CB A7), R253. -/
def execRes4_A (s : State) : Result := clearBit 4 (.reg .a) s

/-- `RES 5,B` (CB A8), R253. -/
def execRes5_B (s : State) : Result := clearBit 5 (.reg .b) s

/-- `RES 5,C` (CB A9), R253. -/
def execRes5_C (s : State) : Result := clearBit 5 (.reg .c) s

/-- `RES 5,D` (CB AA), R253. -/
def execRes5_D (s : State) : Result := clearBit 5 (.reg .d) s

/-- `RES 5,E` (CB AB), R253. -/
def execRes5_E (s : State) : Result := clearBit 5 (.reg .e) s

/-- `RES 5,H` (CB AC), R253. -/
def execRes5_H (s : State) : Result := clearBit 5 (.reg .h) s

/-- `RES 5,L` (CB AD), R253. -/
def execRes5_L (s : State) : Result := clearBit 5 (.reg .l) s

/-- `RES 5,(HL)` (CB AE), R254. -/
def execRes5_IndHL (s : State) : Result := clearBit 5 .indHL s

/-- `RES 5,A` (CB AF), R253. -/
def execRes5_A (s : State) : Result := clearBit 5 (.reg .a) s

/-- `RES 6,B` (CB B0), R253. -/
def execRes6_B (s : State) : Result := clearBit 6 (.reg .b) s

/-- `RES 6,C` (CB B1), R253. -/
def execRes6_C (s : State) : Result := clearBit 6 (.reg .c) s

/-- `RES 6,D` (CB B2), R253. -/
def execRes6_D (s : State) : Result := clearBit 6 (.reg .d) s

/-- `RES 6,E` (CB B3), R253. -/
def execRes6_E (s : State) : Result := clearBit 6 (.reg .e) s

/-- `RES 6,H` (CB B4), R253. -/
def execRes6_H (s : State) : Result := clearBit 6 (.reg .h) s

/-- `RES 6,L` (CB B5), R253. -/
def execRes6_L (s : State) : Result := clearBit 6 (.reg .l) s

/-- `RES 6,(HL)` (CB B6), R254. -/
def execRes6_IndHL (s : State) : Result := clearBit 6 .indHL s

/-- `RES 6,A` (CB B7), R253. -/
def execRes6_A (s : State) : Result := clearBit 6 (.reg .a) s

/-- `RES 7,B` (CB B8), R253. -/
def execRes7_B (s : State) : Result := clearBit 7 (.reg .b) s

/-- `RES 7,C` (CB B9), R253. -/
def execRes7_C (s : State) : Result := clearBit 7 (.reg .c) s

/-- `RES 7,D` (CB BA), R253. -/
def execRes7_D (s : State) : Result := clearBit 7 (.reg .d) s

/-- `RES 7,E` (CB BB), R253. -/
def execRes7_E (s : State) : Result := clearBit 7 (.reg .e) s

/-- `RES 7,H` (CB BC), R253. -/
def execRes7_H (s : State) : Result := clearBit 7 (.reg .h) s

/-- `RES 7,L` (CB BD), R253. -/
def execRes7_L (s : State) : Result := clearBit 7 (.reg .l) s

/-- `RES 7,(HL)` (CB BE), R254. -/
def execRes7_IndHL (s : State) : Result := clearBit 7 .indHL s

/-- `RES 7,A` (CB BF), R253. -/
def execRes7_A (s : State) : Result := clearBit 7 (.reg .a) s

/-- `SET 0,B` (CB C0), R255. -/
def execSet0_B (s : State) : Result := setBit 0 (.reg .b) s

/-- `SET 0,C` (CB C1), R255. -/
def execSet0_C (s : State) : Result := setBit 0 (.reg .c) s

/-- `SET 0,D` (CB C2), R255. -/
def execSet0_D (s : State) : Result := setBit 0 (.reg .d) s

/-- `SET 0,E` (CB C3), R255. -/
def execSet0_E (s : State) : Result := setBit 0 (.reg .e) s

/-- `SET 0,H` (CB C4), R255. -/
def execSet0_H (s : State) : Result := setBit 0 (.reg .h) s

/-- `SET 0,L` (CB C5), R255. -/
def execSet0_L (s : State) : Result := setBit 0 (.reg .l) s

/-- `SET 0,(HL)` (CB C6), R256. -/
def execSet0_IndHL (s : State) : Result := setBit 0 .indHL s

/-- `SET 0,A` (CB C7), R255. -/
def execSet0_A (s : State) : Result := setBit 0 (.reg .a) s

/-- `SET 1,B` (CB C8), R255. -/
def execSet1_B (s : State) : Result := setBit 1 (.reg .b) s

/-- `SET 1,C` (CB C9), R255. -/
def execSet1_C (s : State) : Result := setBit 1 (.reg .c) s

/-- `SET 1,D` (CB CA), R255. -/
def execSet1_D (s : State) : Result := setBit 1 (.reg .d) s

/-- `SET 1,E` (CB CB), R255. -/
def execSet1_E (s : State) : Result := setBit 1 (.reg .e) s

/-- `SET 1,H` (CB CC), R255. -/
def execSet1_H (s : State) : Result := setBit 1 (.reg .h) s

/-- `SET 1,L` (CB CD), R255. -/
def execSet1_L (s : State) : Result := setBit 1 (.reg .l) s

/-- `SET 1,(HL)` (CB CE), R256. -/
def execSet1_IndHL (s : State) : Result := setBit 1 .indHL s

/-- `SET 1,A` (CB CF), R255. -/
def execSet1_A (s : State) : Result := setBit 1 (.reg .a) s

/-- `SET 2,B` (CB D0), R255. -/
def execSet2_B (s : State) : Result := setBit 2 (.reg .b) s

/-- `SET 2,C` (CB D1), R255. -/
def execSet2_C (s : State) : Result := setBit 2 (.reg .c) s

/-- `SET 2,D` (CB D2), R255. -/
def execSet2_D (s : State) : Result := setBit 2 (.reg .d) s

/-- `SET 2,E` (CB D3), R255. -/
def execSet2_E (s : State) : Result := setBit 2 (.reg .e) s

/-- `SET 2,H` (CB D4), R255. -/
def execSet2_H (s : State) : Result := setBit 2 (.reg .h) s

/-- `SET 2,L` (CB D5), R255. -/
def execSet2_L (s : State) : Result := setBit 2 (.reg .l) s

/-- `SET 2,(HL)` (CB D6), R256. -/
def execSet2_IndHL (s : State) : Result := setBit 2 .indHL s

/-- `SET 2,A` (CB D7), R255. -/
def execSet2_A (s : State) : Result := setBit 2 (.reg .a) s

/-- `SET 3,B` (CB D8), R255. -/
def execSet3_B (s : State) : Result := setBit 3 (.reg .b) s

/-- `SET 3,C` (CB D9), R255. -/
def execSet3_C (s : State) : Result := setBit 3 (.reg .c) s

/-- `SET 3,D` (CB DA), R255. -/
def execSet3_D (s : State) : Result := setBit 3 (.reg .d) s

/-- `SET 3,E` (CB DB), R255. -/
def execSet3_E (s : State) : Result := setBit 3 (.reg .e) s

/-- `SET 3,H` (CB DC), R255. -/
def execSet3_H (s : State) : Result := setBit 3 (.reg .h) s

/-- `SET 3,L` (CB DD), R255. -/
def execSet3_L (s : State) : Result := setBit 3 (.reg .l) s

/-- `SET 3,(HL)` (CB DE), R256. -/
def execSet3_IndHL (s : State) : Result := setBit 3 .indHL s

/-- `SET 3,A` (CB DF), R255. -/
def execSet3_A (s : State) : Result := setBit 3 (.reg .a) s

/-- `SET 4,B` (CB E0), R255. -/
def execSet4_B (s : State) : Result := setBit 4 (.reg .b) s

/-- `SET 4,C` (CB E1), R255. -/
def execSet4_C (s : State) : Result := setBit 4 (.reg .c) s

/-- `SET 4,D` (CB E2), R255. -/
def execSet4_D (s : State) : Result := setBit 4 (.reg .d) s

/-- `SET 4,E` (CB E3), R255. -/
def execSet4_E (s : State) : Result := setBit 4 (.reg .e) s

/-- `SET 4,H` (CB E4), R255. -/
def execSet4_H (s : State) : Result := setBit 4 (.reg .h) s

/-- `SET 4,L` (CB E5), R255. -/
def execSet4_L (s : State) : Result := setBit 4 (.reg .l) s

/-- `SET 4,(HL)` (CB E6), R256. -/
def execSet4_IndHL (s : State) : Result := setBit 4 .indHL s

/-- `SET 4,A` (CB E7), R255. -/
def execSet4_A (s : State) : Result := setBit 4 (.reg .a) s

/-- `SET 5,B` (CB E8), R255. -/
def execSet5_B (s : State) : Result := setBit 5 (.reg .b) s

/-- `SET 5,C` (CB E9), R255. -/
def execSet5_C (s : State) : Result := setBit 5 (.reg .c) s

/-- `SET 5,D` (CB EA), R255. -/
def execSet5_D (s : State) : Result := setBit 5 (.reg .d) s

/-- `SET 5,E` (CB EB), R255. -/
def execSet5_E (s : State) : Result := setBit 5 (.reg .e) s

/-- `SET 5,H` (CB EC), R255. -/
def execSet5_H (s : State) : Result := setBit 5 (.reg .h) s

/-- `SET 5,L` (CB ED), R255. -/
def execSet5_L (s : State) : Result := setBit 5 (.reg .l) s

/-- `SET 5,(HL)` (CB EE), R256. -/
def execSet5_IndHL (s : State) : Result := setBit 5 .indHL s

/-- `SET 5,A` (CB EF), R255. -/
def execSet5_A (s : State) : Result := setBit 5 (.reg .a) s

/-- `SET 6,B` (CB F0), R255. -/
def execSet6_B (s : State) : Result := setBit 6 (.reg .b) s

/-- `SET 6,C` (CB F1), R255. -/
def execSet6_C (s : State) : Result := setBit 6 (.reg .c) s

/-- `SET 6,D` (CB F2), R255. -/
def execSet6_D (s : State) : Result := setBit 6 (.reg .d) s

/-- `SET 6,E` (CB F3), R255. -/
def execSet6_E (s : State) : Result := setBit 6 (.reg .e) s

/-- `SET 6,H` (CB F4), R255. -/
def execSet6_H (s : State) : Result := setBit 6 (.reg .h) s

/-- `SET 6,L` (CB F5), R255. -/
def execSet6_L (s : State) : Result := setBit 6 (.reg .l) s

/-- `SET 6,(HL)` (CB F6), R256. -/
def execSet6_IndHL (s : State) : Result := setBit 6 .indHL s

/-- `SET 6,A` (CB F7), R255. -/
def execSet6_A (s : State) : Result := setBit 6 (.reg .a) s

/-- `SET 7,B` (CB F8), R255. -/
def execSet7_B (s : State) : Result := setBit 7 (.reg .b) s

/-- `SET 7,C` (CB F9), R255. -/
def execSet7_C (s : State) : Result := setBit 7 (.reg .c) s

/-- `SET 7,D` (CB FA), R255. -/
def execSet7_D (s : State) : Result := setBit 7 (.reg .d) s

/-- `SET 7,E` (CB FB), R255. -/
def execSet7_E (s : State) : Result := setBit 7 (.reg .e) s

/-- `SET 7,H` (CB FC), R255. -/
def execSet7_H (s : State) : Result := setBit 7 (.reg .h) s

/-- `SET 7,L` (CB FD), R255. -/
def execSet7_L (s : State) : Result := setBit 7 (.reg .l) s

/-- `SET 7,(HL)` (CB FE), R256. -/
def execSet7_IndHL (s : State) : Result := setBit 7 .indHL s

/-- `SET 7,A` (CB FF), R255. -/
def execSet7_A (s : State) : Result := setBit 7 (.reg .a) s

end Sys2Proof.Machine
end

