-- ==== Sys2Proof/Machine/Control.lean ====
section
/-! DEFINITION. Jumps, calls, returns and restarts (spec/46_control_transfer.md R260 to R271). No flag and no general
register is written; a target is not bounds-checked. -/

namespace Sys2Proof.Machine

/-- `JP nn`, `JP (HL)`, `JR e` (R261, R263, R264). -/
def jumpTo (target : Word) (s : State) : Result := .next (s.setPc target)

/-- The target of a relative jump: PC + 2 + e mod 65536 (R264, decision D6). -/
def relativeTarget (e : Byte) (s : State) : Word := s.pc + 2#16 + sext16 e

/-- A conditional jump of the given length (R262, R265). -/
def jumpIf (cc : Cond) (target : Word) (len : Nat) (s : State) : Result :=
  if condHolds s.flags cc then jumpTo target s else .next (s.advance len)

/-- `CALL cc,nn`: an untaken call does not touch the stack (R267). -/
def callIf (cc : Cond) (nn : Word) (s : State) : Result :=
  if condHolds s.flags cc then callTo s (s.pc + 3#16) nn else .next (s.advance 3)

/-- `RET cc`: an untaken return reads no stack byte (R269). -/
def returnIf (cc : Cond) (s : State) : Result :=
  if condHolds s.flags cc then returnToCaller s else .next (s.advance 1)

/-- `RST t`: push PC + 1 and go to t * 8 (R271, decision D7). -/
def restart (t : Fin 8) (s : State) : Result := callTo s (s.pc + 1#16) (restartTarget t)

/-- `JR e` (0x18), R264. -/
def execJr_e (e : Byte) (s : State) : Result := jumpTo (relativeTarget e s) s

/-- `JR NZ,e` (0x20), R265. -/
def execJrNZ_e (e : Byte) (s : State) : Result := jumpIf .nz (relativeTarget e s) 2 s

/-- `JR Z,e` (0x28), R265. -/
def execJrZ_e (e : Byte) (s : State) : Result := jumpIf .z (relativeTarget e s) 2 s

/-- `JR NC,e` (0x30), R265. -/
def execJrNC_e (e : Byte) (s : State) : Result := jumpIf .nc (relativeTarget e s) 2 s

/-- `JR C,e` (0x38), R265. -/
def execJrC_e (e : Byte) (s : State) : Result := jumpIf .c (relativeTarget e s) 2 s

/-- `RET NZ` (0xC0), R269. -/
def execRetNZ (s : State) : Result := returnIf .nz s

/-- `JP NZ,nn` (0xC2), R262. -/
def execJpNZ_nn (nn : Word) (s : State) : Result := jumpIf .nz nn 3 s

/-- `JP nn` (0xC3), R261. -/
def execJp_nn (nn : Word) (s : State) : Result := jumpTo nn s

/-- `CALL NZ,nn` (0xC4), R267. -/
def execCallNZ_nn (nn : Word) (s : State) : Result := callIf .nz nn s

/-- `RST 0x00` (0xC7), R271. -/
def execRst00 (s : State) : Result := restart 0 s

/-- `RET Z` (0xC8), R269. -/
def execRetZ (s : State) : Result := returnIf .z s

/-- `RET` (0xC9), R268. -/
def execRet (s : State) : Result := returnToCaller s

/-- `JP Z,nn` (0xCA), R262. -/
def execJpZ_nn (nn : Word) (s : State) : Result := jumpIf .z nn 3 s

/-- `CALL Z,nn` (0xCC), R267. -/
def execCallZ_nn (nn : Word) (s : State) : Result := callIf .z nn s

/-- `CALL nn` (0xCD), R266. -/
def execCall_nn (nn : Word) (s : State) : Result := callTo s (s.pc + 3#16) nn

/-- `RST 0x08` (0xCF), R271. -/
def execRst08 (s : State) : Result := restart 1 s

/-- `RET NC` (0xD0), R269. -/
def execRetNC (s : State) : Result := returnIf .nc s

/-- `JP NC,nn` (0xD2), R262. -/
def execJpNC_nn (nn : Word) (s : State) : Result := jumpIf .nc nn 3 s

/-- `CALL NC,nn` (0xD4), R267. -/
def execCallNC_nn (nn : Word) (s : State) : Result := callIf .nc nn s

/-- `RST 0x10` (0xD7), R271. -/
def execRst10 (s : State) : Result := restart 2 s

/-- `RET C` (0xD8), R269. -/
def execRetC (s : State) : Result := returnIf .c s

/-- `RETI` (0xD9), R270. -/
def execReti (s : State) : Result := returnToCaller s

/-- `JP C,nn` (0xDA), R262. -/
def execJpC_nn (nn : Word) (s : State) : Result := jumpIf .c nn 3 s

/-- `CALL C,nn` (0xDC), R267. -/
def execCallC_nn (nn : Word) (s : State) : Result := callIf .c nn s

/-- `RST 0x18` (0xDF), R271. -/
def execRst18 (s : State) : Result := restart 3 s

/-- `RST 0x20` (0xE7), R271. -/
def execRst20 (s : State) : Result := restart 4 s

/-- `JP (HL)` (0xE9), R263. -/
def execJpIndHL (s : State) : Result := jumpTo s.hl s

/-- `RST 0x28` (0xEF), R271. -/
def execRst28 (s : State) : Result := restart 5 s

/-- `RST 0x30` (0xF7), R271. -/
def execRst30 (s : State) : Result := restart 6 s

/-- `RST 0x38` (0xFF), R271. -/
def execRst38 (s : State) : Result := restart 7 s

end Sys2Proof.Machine
end

