-- ==== Sys2Proof/Machine/Loads8.lean ====
section
/-! DEFINITION. 8-bit loads and stores (spec/40_loads_8bit.md R110 to R129): one byte moved unchanged, no flag written. -/

namespace Sys2Proof.Machine

/-- A register receives a byte and PC moves past the instruction (R110). -/
def loadReg (r : Reg8) (v : Byte) (len : Nat) (s : State) : Result := .next ((s.setReg r v).advance len)

/-- A byte is stored and PC moves past the instruction (R110). -/
def storeByte (addr : Word) (v : Byte) (len : Nat) (s : State) : Result := .next ((s.writeByte addr v).advance len)

/-- `LD (HL+),A` and `LD (HL-),A`: store A at the old HL, then HL takes its new value (R126, R128). -/
def storeAtHLThen (hl' : Word) (s : State) : Result := .next (((s.writeByte s.hl s.a).setHL hl').advance 1)

/-- `LD A,(HL+)` and `LD A,(HL-)`: load A from the old HL, then HL takes its new value (R127, R129). -/
def loadAtHLThen (hl' : Word) (s : State) : Result := .next (((s.setReg .a (s.readByte s.hl)).setHL hl').advance 1)

/-- `LD (BC),A` (0x02), R118. -/
def execLdIndBC_A (s : State) : Result := storeByte s.bc s.a 1 s

/-- `LD B,n` (0x06), R112. -/
def execLdB_n (n : Byte) (s : State) : Result := loadReg .b n 2 s

/-- `LD A,(BC)` (0x0A), R116. -/
def execLdA_IndBC (s : State) : Result := loadReg .a (s.readByte s.bc) 1 s

/-- `LD C,n` (0x0E), R112. -/
def execLdC_n (n : Byte) (s : State) : Result := loadReg .c n 2 s

/-- `LD (DE),A` (0x12), R119. -/
def execLdIndDE_A (s : State) : Result := storeByte s.de s.a 1 s

/-- `LD D,n` (0x16), R112. -/
def execLdD_n (n : Byte) (s : State) : Result := loadReg .d n 2 s

/-- `LD A,(DE)` (0x1A), R117. -/
def execLdA_IndDE (s : State) : Result := loadReg .a (s.readByte s.de) 1 s

/-- `LD E,n` (0x1E), R112. -/
def execLdE_n (n : Byte) (s : State) : Result := loadReg .e n 2 s

/-- `LD (HL+),A` (0x22), R126. -/
def execLdIndHLInc_A (s : State) : Result := storeAtHLThen (s.hl + 1#16) s

/-- `LD H,n` (0x26), R112. -/
def execLdH_n (n : Byte) (s : State) : Result := loadReg .h n 2 s

/-- `LD A,(HL+)` (0x2A), R127. -/
def execLdA_IndHLInc (s : State) : Result := loadAtHLThen (s.hl + 1#16) s

/-- `LD L,n` (0x2E), R112. -/
def execLdL_n (n : Byte) (s : State) : Result := loadReg .l n 2 s

/-- `LD (HL-),A` (0x32), R128. -/
def execLdIndHLDec_A (s : State) : Result := storeAtHLThen (s.hl - 1#16) s

/-- `LD (HL),n` (0x36), R115. -/
def execLdIndHL_n (n : Byte) (s : State) : Result := storeByte s.hl n 2 s

/-- `LD A,(HL-)` (0x3A), R129. -/
def execLdA_IndHLDec (s : State) : Result := loadAtHLThen (s.hl - 1#16) s

/-- `LD A,n` (0x3E), R112. -/
def execLdA_n (n : Byte) (s : State) : Result := loadReg .a n 2 s

/-- `LD B,B` (0x40), R111. -/
def execLdB_B (s : State) : Result := loadReg .b (s.reg .b) 1 s

/-- `LD B,C` (0x41), R111. -/
def execLdB_C (s : State) : Result := loadReg .b (s.reg .c) 1 s

/-- `LD B,D` (0x42), R111. -/
def execLdB_D (s : State) : Result := loadReg .b (s.reg .d) 1 s

/-- `LD B,E` (0x43), R111. -/
def execLdB_E (s : State) : Result := loadReg .b (s.reg .e) 1 s

/-- `LD B,H` (0x44), R111. -/
def execLdB_H (s : State) : Result := loadReg .b (s.reg .h) 1 s

/-- `LD B,L` (0x45), R111. -/
def execLdB_L (s : State) : Result := loadReg .b (s.reg .l) 1 s

/-- `LD B,(HL)` (0x46), R113. -/
def execLdB_IndHL (s : State) : Result := loadReg .b (s.readByte s.hl) 1 s

/-- `LD B,A` (0x47), R111. -/
def execLdB_A (s : State) : Result := loadReg .b (s.reg .a) 1 s

/-- `LD C,B` (0x48), R111. -/
def execLdC_B (s : State) : Result := loadReg .c (s.reg .b) 1 s

/-- `LD C,C` (0x49), R111. -/
def execLdC_C (s : State) : Result := loadReg .c (s.reg .c) 1 s

/-- `LD C,D` (0x4A), R111. -/
def execLdC_D (s : State) : Result := loadReg .c (s.reg .d) 1 s

/-- `LD C,E` (0x4B), R111. -/
def execLdC_E (s : State) : Result := loadReg .c (s.reg .e) 1 s

/-- `LD C,H` (0x4C), R111. -/
def execLdC_H (s : State) : Result := loadReg .c (s.reg .h) 1 s

/-- `LD C,L` (0x4D), R111. -/
def execLdC_L (s : State) : Result := loadReg .c (s.reg .l) 1 s

/-- `LD C,(HL)` (0x4E), R113. -/
def execLdC_IndHL (s : State) : Result := loadReg .c (s.readByte s.hl) 1 s

/-- `LD C,A` (0x4F), R111. -/
def execLdC_A (s : State) : Result := loadReg .c (s.reg .a) 1 s

/-- `LD D,B` (0x50), R111. -/
def execLdD_B (s : State) : Result := loadReg .d (s.reg .b) 1 s

/-- `LD D,C` (0x51), R111. -/
def execLdD_C (s : State) : Result := loadReg .d (s.reg .c) 1 s

/-- `LD D,D` (0x52), R111. -/
def execLdD_D (s : State) : Result := loadReg .d (s.reg .d) 1 s

/-- `LD D,E` (0x53), R111. -/
def execLdD_E (s : State) : Result := loadReg .d (s.reg .e) 1 s

/-- `LD D,H` (0x54), R111. -/
def execLdD_H (s : State) : Result := loadReg .d (s.reg .h) 1 s

/-- `LD D,L` (0x55), R111. -/
def execLdD_L (s : State) : Result := loadReg .d (s.reg .l) 1 s

/-- `LD D,(HL)` (0x56), R113. -/
def execLdD_IndHL (s : State) : Result := loadReg .d (s.readByte s.hl) 1 s

/-- `LD D,A` (0x57), R111. -/
def execLdD_A (s : State) : Result := loadReg .d (s.reg .a) 1 s

/-- `LD E,B` (0x58), R111. -/
def execLdE_B (s : State) : Result := loadReg .e (s.reg .b) 1 s

/-- `LD E,C` (0x59), R111. -/
def execLdE_C (s : State) : Result := loadReg .e (s.reg .c) 1 s

/-- `LD E,D` (0x5A), R111. -/
def execLdE_D (s : State) : Result := loadReg .e (s.reg .d) 1 s

/-- `LD E,E` (0x5B), R111. -/
def execLdE_E (s : State) : Result := loadReg .e (s.reg .e) 1 s

/-- `LD E,H` (0x5C), R111. -/
def execLdE_H (s : State) : Result := loadReg .e (s.reg .h) 1 s

/-- `LD E,L` (0x5D), R111. -/
def execLdE_L (s : State) : Result := loadReg .e (s.reg .l) 1 s

/-- `LD E,(HL)` (0x5E), R113. -/
def execLdE_IndHL (s : State) : Result := loadReg .e (s.readByte s.hl) 1 s

/-- `LD E,A` (0x5F), R111. -/
def execLdE_A (s : State) : Result := loadReg .e (s.reg .a) 1 s

/-- `LD H,B` (0x60), R111. -/
def execLdH_B (s : State) : Result := loadReg .h (s.reg .b) 1 s

/-- `LD H,C` (0x61), R111. -/
def execLdH_C (s : State) : Result := loadReg .h (s.reg .c) 1 s

/-- `LD H,D` (0x62), R111. -/
def execLdH_D (s : State) : Result := loadReg .h (s.reg .d) 1 s

/-- `LD H,E` (0x63), R111. -/
def execLdH_E (s : State) : Result := loadReg .h (s.reg .e) 1 s

/-- `LD H,H` (0x64), R111. -/
def execLdH_H (s : State) : Result := loadReg .h (s.reg .h) 1 s

/-- `LD H,L` (0x65), R111. -/
def execLdH_L (s : State) : Result := loadReg .h (s.reg .l) 1 s

/-- `LD H,(HL)` (0x66), R113. -/
def execLdH_IndHL (s : State) : Result := loadReg .h (s.readByte s.hl) 1 s

/-- `LD H,A` (0x67), R111. -/
def execLdH_A (s : State) : Result := loadReg .h (s.reg .a) 1 s

/-- `LD L,B` (0x68), R111. -/
def execLdL_B (s : State) : Result := loadReg .l (s.reg .b) 1 s

/-- `LD L,C` (0x69), R111. -/
def execLdL_C (s : State) : Result := loadReg .l (s.reg .c) 1 s

/-- `LD L,D` (0x6A), R111. -/
def execLdL_D (s : State) : Result := loadReg .l (s.reg .d) 1 s

/-- `LD L,E` (0x6B), R111. -/
def execLdL_E (s : State) : Result := loadReg .l (s.reg .e) 1 s

/-- `LD L,H` (0x6C), R111. -/
def execLdL_H (s : State) : Result := loadReg .l (s.reg .h) 1 s

/-- `LD L,L` (0x6D), R111. -/
def execLdL_L (s : State) : Result := loadReg .l (s.reg .l) 1 s

/-- `LD L,(HL)` (0x6E), R113. -/
def execLdL_IndHL (s : State) : Result := loadReg .l (s.readByte s.hl) 1 s

/-- `LD L,A` (0x6F), R111. -/
def execLdL_A (s : State) : Result := loadReg .l (s.reg .a) 1 s

/-- `LD (HL),B` (0x70), R114. -/
def execLdIndHL_B (s : State) : Result := storeByte s.hl (s.reg .b) 1 s

/-- `LD (HL),C` (0x71), R114. -/
def execLdIndHL_C (s : State) : Result := storeByte s.hl (s.reg .c) 1 s

/-- `LD (HL),D` (0x72), R114. -/
def execLdIndHL_D (s : State) : Result := storeByte s.hl (s.reg .d) 1 s

/-- `LD (HL),E` (0x73), R114. -/
def execLdIndHL_E (s : State) : Result := storeByte s.hl (s.reg .e) 1 s

/-- `LD (HL),H` (0x74), R114. -/
def execLdIndHL_H (s : State) : Result := storeByte s.hl (s.reg .h) 1 s

/-- `LD (HL),L` (0x75), R114. -/
def execLdIndHL_L (s : State) : Result := storeByte s.hl (s.reg .l) 1 s

/-- `LD (HL),A` (0x77), R114. -/
def execLdIndHL_A (s : State) : Result := storeByte s.hl (s.reg .a) 1 s

/-- `LD A,B` (0x78), R111. -/
def execLdA_B (s : State) : Result := loadReg .a (s.reg .b) 1 s

/-- `LD A,C` (0x79), R111. -/
def execLdA_C (s : State) : Result := loadReg .a (s.reg .c) 1 s

/-- `LD A,D` (0x7A), R111. -/
def execLdA_D (s : State) : Result := loadReg .a (s.reg .d) 1 s

/-- `LD A,E` (0x7B), R111. -/
def execLdA_E (s : State) : Result := loadReg .a (s.reg .e) 1 s

/-- `LD A,H` (0x7C), R111. -/
def execLdA_H (s : State) : Result := loadReg .a (s.reg .h) 1 s

/-- `LD A,L` (0x7D), R111. -/
def execLdA_L (s : State) : Result := loadReg .a (s.reg .l) 1 s

/-- `LD A,(HL)` (0x7E), R113. -/
def execLdA_IndHL (s : State) : Result := loadReg .a (s.readByte s.hl) 1 s

/-- `LD A,A` (0x7F), R111. -/
def execLdA_A (s : State) : Result := loadReg .a (s.reg .a) 1 s

/-- `LDH (n),A` (0xE0), R123. -/
def execLdhIndN_A (n : Byte) (s : State) : Result := storeByte (highPage n) s.a 2 s

/-- `LD (C),A` (0xE2), R125. -/
def execLdIndC_A (s : State) : Result := storeByte (highPage s.c) s.a 1 s

/-- `LD (nn),A` (0xEA), R121. -/
def execLdIndNN_A (nn : Word) (s : State) : Result := storeByte nn s.a 3 s

/-- `LDH A,(n)` (0xF0), R122. -/
def execLdhA_IndN (n : Byte) (s : State) : Result := loadReg .a (s.readByte (highPage n)) 2 s

/-- `LD A,(C)` (0xF2), R124. -/
def execLdA_IndC (s : State) : Result := loadReg .a (s.readByte (highPage s.c)) 1 s

/-- `LD A,(nn)` (0xFA), R120. -/
def execLdA_IndNN (nn : Word) (s : State) : Result := loadReg .a (s.readByte nn) 3 s

end Sys2Proof.Machine
end

