-- ==== Sys2Proof/Machine/Misc.lean ====
section
/-! DEFINITION. NOP, HALT, STOP, DI, EI and the eleven undefined opcodes (spec/47_misc_control.md R281 to R286): PC
advances; HALT also sets the latch. -/

namespace Sys2Proof.Machine

/-- `NOP` (0x00), R281. -/
def execNop (s : State) : Result := .next (s.advance 1)

/-- `STOP` (0x10), R283. -/
def execStop (s : State) : Result := .next (s.advance stopLength)

/-- `HALT` (0x76), R282. -/
def execHalt (s : State) : Result := .next ({ s with halted := true }.advance 1)

/-- `UNDEF_D3` (0xD3), R286. -/
def execUndefD3 (s : State) : Result := .next (s.advance 1)

/-- `UNDEF_DB` (0xDB), R286. -/
def execUndefDB (s : State) : Result := .next (s.advance 1)

/-- `UNDEF_DD` (0xDD), R286. -/
def execUndefDD (s : State) : Result := .next (s.advance 1)

/-- `UNDEF_E3` (0xE3), R286. -/
def execUndefE3 (s : State) : Result := .next (s.advance 1)

/-- `UNDEF_E4` (0xE4), R286. -/
def execUndefE4 (s : State) : Result := .next (s.advance 1)

/-- `UNDEF_EB` (0xEB), R286. -/
def execUndefEB (s : State) : Result := .next (s.advance 1)

/-- `UNDEF_EC` (0xEC), R286. -/
def execUndefEC (s : State) : Result := .next (s.advance 1)

/-- `UNDEF_ED` (0xED), R286. -/
def execUndefED (s : State) : Result := .next (s.advance 1)

/-- `DI` (0xF3), R284. -/
def execDi (s : State) : Result := .next (s.advance 1)

/-- `UNDEF_F4` (0xF4), R286. -/
def execUndefF4 (s : State) : Result := .next (s.advance 1)

/-- `EI` (0xFB), R285. -/
def execEi (s : State) : Result := .next (s.advance 1)

/-- `UNDEF_FC` (0xFC), R286. -/
def execUndefFC (s : State) : Result := .next (s.advance 1)

/-- `UNDEF_FD` (0xFD), R286. -/
def execUndefFD (s : State) : Result := .next (s.advance 1)

end Sys2Proof.Machine
end

