-- ==== Sys2Proof/Machine/Rotates.lean ====
section
/-! DEFINITION. Rotates, shifts and SWAP (spec/44_rotates_shifts.md R220 to R240). -/

namespace Sys2Proof.Machine

/-- An accumulator rotate: Carry takes the bit that leaves, the other flags are forced false (R221 to R224). -/
def rotateA (op : RotOp) (s : State) : Result :=
  let res := rotate op s.a s.flags.fC
  .next (((s.setReg .a res.1).setFlags (accumulatorRotateFlags res.2)).advance 1)

/-- A CB-prefixed rotate, shift or SWAP of a register or of the byte at HL (R225 to R240). -/
def rotateOperand (op : RotOp) (o : Operand8) (s : State) : Result :=
  let res := rotate op (s.readOperand o) s.flags.fC
  .next (((s.writeOperand o res.1).setFlags (rotateFlags res.1 res.2)).advance 2)

/-- `RLCA` (0x07), R221. -/
def execRlca (s : State) : Result := rotateA .rlc s

/-- `RRCA` (0x0F), R222. -/
def execRrca (s : State) : Result := rotateA .rrc s

/-- `RLA` (0x17), R223. -/
def execRla (s : State) : Result := rotateA .rl s

/-- `RRA` (0x1F), R224. -/
def execRra (s : State) : Result := rotateA .rr s

/-- `RLC B` (CB 00), R225. -/
def execRlcB (s : State) : Result := rotateOperand .rlc (.reg .b) s

/-- `RLC C` (CB 01), R225. -/
def execRlcC (s : State) : Result := rotateOperand .rlc (.reg .c) s

/-- `RLC D` (CB 02), R225. -/
def execRlcD (s : State) : Result := rotateOperand .rlc (.reg .d) s

/-- `RLC E` (CB 03), R225. -/
def execRlcE (s : State) : Result := rotateOperand .rlc (.reg .e) s

/-- `RLC H` (CB 04), R225. -/
def execRlcH (s : State) : Result := rotateOperand .rlc (.reg .h) s

/-- `RLC L` (CB 05), R225. -/
def execRlcL (s : State) : Result := rotateOperand .rlc (.reg .l) s

/-- `RLC (HL)` (CB 06), R226. -/
def execRlcIndHL (s : State) : Result := rotateOperand .rlc .indHL s

/-- `RLC A` (CB 07), R225. -/
def execRlcA (s : State) : Result := rotateOperand .rlc (.reg .a) s

/-- `RRC B` (CB 08), R227. -/
def execRrcB (s : State) : Result := rotateOperand .rrc (.reg .b) s

/-- `RRC C` (CB 09), R227. -/
def execRrcC (s : State) : Result := rotateOperand .rrc (.reg .c) s

/-- `RRC D` (CB 0A), R227. -/
def execRrcD (s : State) : Result := rotateOperand .rrc (.reg .d) s

/-- `RRC E` (CB 0B), R227. -/
def execRrcE (s : State) : Result := rotateOperand .rrc (.reg .e) s

/-- `RRC H` (CB 0C), R227. -/
def execRrcH (s : State) : Result := rotateOperand .rrc (.reg .h) s

/-- `RRC L` (CB 0D), R227. -/
def execRrcL (s : State) : Result := rotateOperand .rrc (.reg .l) s

/-- `RRC (HL)` (CB 0E), R228. -/
def execRrcIndHL (s : State) : Result := rotateOperand .rrc .indHL s

/-- `RRC A` (CB 0F), R227. -/
def execRrcA (s : State) : Result := rotateOperand .rrc (.reg .a) s

/-- `RL B` (CB 10), R229. -/
def execRlB (s : State) : Result := rotateOperand .rl (.reg .b) s

/-- `RL C` (CB 11), R229. -/
def execRlC (s : State) : Result := rotateOperand .rl (.reg .c) s

/-- `RL D` (CB 12), R229. -/
def execRlD (s : State) : Result := rotateOperand .rl (.reg .d) s

/-- `RL E` (CB 13), R229. -/
def execRlE (s : State) : Result := rotateOperand .rl (.reg .e) s

/-- `RL H` (CB 14), R229. -/
def execRlH (s : State) : Result := rotateOperand .rl (.reg .h) s

/-- `RL L` (CB 15), R229. -/
def execRlL (s : State) : Result := rotateOperand .rl (.reg .l) s

/-- `RL (HL)` (CB 16), R230. -/
def execRlIndHL (s : State) : Result := rotateOperand .rl .indHL s

/-- `RL A` (CB 17), R229. -/
def execRlA (s : State) : Result := rotateOperand .rl (.reg .a) s

/-- `RR B` (CB 18), R231. -/
def execRrB (s : State) : Result := rotateOperand .rr (.reg .b) s

/-- `RR C` (CB 19), R231. -/
def execRrC (s : State) : Result := rotateOperand .rr (.reg .c) s

/-- `RR D` (CB 1A), R231. -/
def execRrD (s : State) : Result := rotateOperand .rr (.reg .d) s

/-- `RR E` (CB 1B), R231. -/
def execRrE (s : State) : Result := rotateOperand .rr (.reg .e) s

/-- `RR H` (CB 1C), R231. -/
def execRrH (s : State) : Result := rotateOperand .rr (.reg .h) s

/-- `RR L` (CB 1D), R231. -/
def execRrL (s : State) : Result := rotateOperand .rr (.reg .l) s

/-- `RR (HL)` (CB 1E), R232. -/
def execRrIndHL (s : State) : Result := rotateOperand .rr .indHL s

/-- `RR A` (CB 1F), R231. -/
def execRrA (s : State) : Result := rotateOperand .rr (.reg .a) s

/-- `SLA B` (CB 20), R233. -/
def execSlaB (s : State) : Result := rotateOperand .sla (.reg .b) s

/-- `SLA C` (CB 21), R233. -/
def execSlaC (s : State) : Result := rotateOperand .sla (.reg .c) s

/-- `SLA D` (CB 22), R233. -/
def execSlaD (s : State) : Result := rotateOperand .sla (.reg .d) s

/-- `SLA E` (CB 23), R233. -/
def execSlaE (s : State) : Result := rotateOperand .sla (.reg .e) s

/-- `SLA H` (CB 24), R233. -/
def execSlaH (s : State) : Result := rotateOperand .sla (.reg .h) s

/-- `SLA L` (CB 25), R233. -/
def execSlaL (s : State) : Result := rotateOperand .sla (.reg .l) s

/-- `SLA (HL)` (CB 26), R234. -/
def execSlaIndHL (s : State) : Result := rotateOperand .sla .indHL s

/-- `SLA A` (CB 27), R233. -/
def execSlaA (s : State) : Result := rotateOperand .sla (.reg .a) s

/-- `SRA B` (CB 28), R235. -/
def execSraB (s : State) : Result := rotateOperand .sra (.reg .b) s

/-- `SRA C` (CB 29), R235. -/
def execSraC (s : State) : Result := rotateOperand .sra (.reg .c) s

/-- `SRA D` (CB 2A), R235. -/
def execSraD (s : State) : Result := rotateOperand .sra (.reg .d) s

/-- `SRA E` (CB 2B), R235. -/
def execSraE (s : State) : Result := rotateOperand .sra (.reg .e) s

/-- `SRA H` (CB 2C), R235. -/
def execSraH (s : State) : Result := rotateOperand .sra (.reg .h) s

/-- `SRA L` (CB 2D), R235. -/
def execSraL (s : State) : Result := rotateOperand .sra (.reg .l) s

/-- `SRA (HL)` (CB 2E), R236. -/
def execSraIndHL (s : State) : Result := rotateOperand .sra .indHL s

/-- `SRA A` (CB 2F), R235. -/
def execSraA (s : State) : Result := rotateOperand .sra (.reg .a) s

/-- `SWAP B` (CB 30), R237. -/
def execSwapB (s : State) : Result := rotateOperand .swap (.reg .b) s

/-- `SWAP C` (CB 31), R237. -/
def execSwapC (s : State) : Result := rotateOperand .swap (.reg .c) s

/-- `SWAP D` (CB 32), R237. -/
def execSwapD (s : State) : Result := rotateOperand .swap (.reg .d) s

/-- `SWAP E` (CB 33), R237. -/
def execSwapE (s : State) : Result := rotateOperand .swap (.reg .e) s

/-- `SWAP H` (CB 34), R237. -/
def execSwapH (s : State) : Result := rotateOperand .swap (.reg .h) s

/-- `SWAP L` (CB 35), R237. -/
def execSwapL (s : State) : Result := rotateOperand .swap (.reg .l) s

/-- `SWAP (HL)` (CB 36), R238. -/
def execSwapIndHL (s : State) : Result := rotateOperand .swap .indHL s

/-- `SWAP A` (CB 37), R237. -/
def execSwapA (s : State) : Result := rotateOperand .swap (.reg .a) s

/-- `SRL B` (CB 38), R239. -/
def execSrlB (s : State) : Result := rotateOperand .srl (.reg .b) s

/-- `SRL C` (CB 39), R239. -/
def execSrlC (s : State) : Result := rotateOperand .srl (.reg .c) s

/-- `SRL D` (CB 3A), R239. -/
def execSrlD (s : State) : Result := rotateOperand .srl (.reg .d) s

/-- `SRL E` (CB 3B), R239. -/
def execSrlE (s : State) : Result := rotateOperand .srl (.reg .e) s

/-- `SRL H` (CB 3C), R239. -/
def execSrlH (s : State) : Result := rotateOperand .srl (.reg .h) s

/-- `SRL L` (CB 3D), R239. -/
def execSrlL (s : State) : Result := rotateOperand .srl (.reg .l) s

/-- `SRL (HL)` (CB 3E), R240. -/
def execSrlIndHL (s : State) : Result := rotateOperand .srl .indHL s

/-- `SRL A` (CB 3F), R239. -/
def execSrlA (s : State) : Result := rotateOperand .srl (.reg .a) s

end Sys2Proof.Machine
end

