-- ==== Sys2Proof/Machine/Prefix.lean ====
section
/-! DEFINITION. PREFIX CB, the nested dispatch (spec/47_misc_control.md R287): the extended table as a list of the 256
meanings, indexed by the byte at PC + 1. -/

namespace Sys2Proof.Machine

/-- The type of a meaning without an immediate. -/
abbrev Meaning := State → Result

/-- Extended opcodes 0x00 to 0x0F (R97). -/
def extendedRow0 : List Meaning :=
  [execRlcB, execRlcC, execRlcD, execRlcE, execRlcH, execRlcL, execRlcIndHL, execRlcA,
   execRrcB, execRrcC, execRrcD, execRrcE, execRrcH, execRrcL, execRrcIndHL, execRrcA]

/-- Extended opcodes 0x10 to 0x1F (R97). -/
def extendedRow1 : List Meaning :=
  [execRlB, execRlC, execRlD, execRlE, execRlH, execRlL, execRlIndHL, execRlA,
   execRrB, execRrC, execRrD, execRrE, execRrH, execRrL, execRrIndHL, execRrA]

/-- Extended opcodes 0x20 to 0x2F (R97). -/
def extendedRow2 : List Meaning :=
  [execSlaB, execSlaC, execSlaD, execSlaE, execSlaH, execSlaL, execSlaIndHL, execSlaA,
   execSraB, execSraC, execSraD, execSraE, execSraH, execSraL, execSraIndHL, execSraA]

/-- Extended opcodes 0x30 to 0x3F (R97). -/
def extendedRow3 : List Meaning :=
  [execSwapB, execSwapC, execSwapD, execSwapE, execSwapH, execSwapL, execSwapIndHL, execSwapA,
   execSrlB, execSrlC, execSrlD, execSrlE, execSrlH, execSrlL, execSrlIndHL, execSrlA]

/-- Extended opcodes 0x40 to 0x4F (R97). -/
def extendedRow4 : List Meaning :=
  [execBit0_B, execBit0_C, execBit0_D, execBit0_E, execBit0_H, execBit0_L, execBit0_IndHL, execBit0_A,
   execBit1_B, execBit1_C, execBit1_D, execBit1_E, execBit1_H, execBit1_L, execBit1_IndHL, execBit1_A]

/-- Extended opcodes 0x50 to 0x5F (R97). -/
def extendedRow5 : List Meaning :=
  [execBit2_B, execBit2_C, execBit2_D, execBit2_E, execBit2_H, execBit2_L, execBit2_IndHL, execBit2_A,
   execBit3_B, execBit3_C, execBit3_D, execBit3_E, execBit3_H, execBit3_L, execBit3_IndHL, execBit3_A]

/-- Extended opcodes 0x60 to 0x6F (R97). -/
def extendedRow6 : List Meaning :=
  [execBit4_B, execBit4_C, execBit4_D, execBit4_E, execBit4_H, execBit4_L, execBit4_IndHL, execBit4_A,
   execBit5_B, execBit5_C, execBit5_D, execBit5_E, execBit5_H, execBit5_L, execBit5_IndHL, execBit5_A]

/-- Extended opcodes 0x70 to 0x7F (R97). -/
def extendedRow7 : List Meaning :=
  [execBit6_B, execBit6_C, execBit6_D, execBit6_E, execBit6_H, execBit6_L, execBit6_IndHL, execBit6_A,
   execBit7_B, execBit7_C, execBit7_D, execBit7_E, execBit7_H, execBit7_L, execBit7_IndHL, execBit7_A]

/-- Extended opcodes 0x80 to 0x8F (R97). -/
def extendedRow8 : List Meaning :=
  [execRes0_B, execRes0_C, execRes0_D, execRes0_E, execRes0_H, execRes0_L, execRes0_IndHL, execRes0_A,
   execRes1_B, execRes1_C, execRes1_D, execRes1_E, execRes1_H, execRes1_L, execRes1_IndHL, execRes1_A]

/-- Extended opcodes 0x90 to 0x9F (R97). -/
def extendedRow9 : List Meaning :=
  [execRes2_B, execRes2_C, execRes2_D, execRes2_E, execRes2_H, execRes2_L, execRes2_IndHL, execRes2_A,
   execRes3_B, execRes3_C, execRes3_D, execRes3_E, execRes3_H, execRes3_L, execRes3_IndHL, execRes3_A]

/-- Extended opcodes 0xA0 to 0xAF (R97). -/
def extendedRowA : List Meaning :=
  [execRes4_B, execRes4_C, execRes4_D, execRes4_E, execRes4_H, execRes4_L, execRes4_IndHL, execRes4_A,
   execRes5_B, execRes5_C, execRes5_D, execRes5_E, execRes5_H, execRes5_L, execRes5_IndHL, execRes5_A]

/-- Extended opcodes 0xB0 to 0xBF (R97). -/
def extendedRowB : List Meaning :=
  [execRes6_B, execRes6_C, execRes6_D, execRes6_E, execRes6_H, execRes6_L, execRes6_IndHL, execRes6_A,
   execRes7_B, execRes7_C, execRes7_D, execRes7_E, execRes7_H, execRes7_L, execRes7_IndHL, execRes7_A]

/-- Extended opcodes 0xC0 to 0xCF (R97). -/
def extendedRowC : List Meaning :=
  [execSet0_B, execSet0_C, execSet0_D, execSet0_E, execSet0_H, execSet0_L, execSet0_IndHL, execSet0_A,
   execSet1_B, execSet1_C, execSet1_D, execSet1_E, execSet1_H, execSet1_L, execSet1_IndHL, execSet1_A]

/-- Extended opcodes 0xD0 to 0xDF (R97). -/
def extendedRowD : List Meaning :=
  [execSet2_B, execSet2_C, execSet2_D, execSet2_E, execSet2_H, execSet2_L, execSet2_IndHL, execSet2_A,
   execSet3_B, execSet3_C, execSet3_D, execSet3_E, execSet3_H, execSet3_L, execSet3_IndHL, execSet3_A]

/-- Extended opcodes 0xE0 to 0xEF (R97). -/
def extendedRowE : List Meaning :=
  [execSet4_B, execSet4_C, execSet4_D, execSet4_E, execSet4_H, execSet4_L, execSet4_IndHL, execSet4_A,
   execSet5_B, execSet5_C, execSet5_D, execSet5_E, execSet5_H, execSet5_L, execSet5_IndHL, execSet5_A]

/-- Extended opcodes 0xF0 to 0xFF (R97). -/
def extendedRowF : List Meaning :=
  [execSet6_B, execSet6_C, execSet6_D, execSet6_E, execSet6_H, execSet6_L, execSet6_IndHL, execSet6_A,
   execSet7_B, execSet7_C, execSet7_D, execSet7_E, execSet7_H, execSet7_L, execSet7_IndHL, execSet7_A]

/-- The extended table: total over all 256 values of the second byte (R84, R97). -/
def extendedTable : List Meaning :=
  extendedRow0 ++ extendedRow1 ++ extendedRow2 ++ extendedRow3 ++ extendedRow4 ++ extendedRow5 ++ extendedRow6 ++ extendedRow7 ++
  extendedRow8 ++ extendedRow9 ++ extendedRowA ++ extendedRowB ++ extendedRowC ++ extendedRowD ++ extendedRowE ++ extendedRowF

/-- `PREFIX CB` (0xCB), R287: read the byte at PC + 1, which faults at PC = 0xFFFF, and run the handler it selects. The
prefix itself changes nothing. The last arm is reached by no byte, since the table has 256 entries. -/
def execPrefixCB (s : State) : Result :=
  match memRead s ((s.pc.toNat : Int) + 1) with
  | .error f => .fault f
  | .ok o =>
    match extendedTable[o.toNat]? with
    | some run => run s
    | none => .refused .undecodable

end Sys2Proof.Machine
end

