-- ==== Sys2Proof/Machine/Fetch.lean ====
section
/-! DEFINITION. Instruction fetch (spec/20_memory.md R65, R66) and storing an instruction where the next step fetches it. -/

namespace Sys2Proof.Machine

/-- `n` bytes from the address `base` upwards, in ascending order; the first one outside the space raises
BoundsViolation (R66). -/
def fetchFrom (s : State) (base : Int) : Nat → Except Fault (List Byte)
  | 0 => .ok []
  | n + 1 =>
    match memRead s base with
    | .error f => .error f
    | .ok v =>
      match fetchFrom s (base + 1) n with
      | .error f => .error f
      | .ok rest => .ok (v :: rest)

/-- The opcode byte at PC, which cannot fault, and the bytes its format has after it (R65). -/
def fetch (s : State) : Except Fault (List Byte) :=
  let op := s.readByte s.pc
  match fetchFrom s ((s.pc.toNat : Int) + 1) ((baseEntry op).format.fetched - 1) with
  | .error f => .error f
  | .ok rest => .ok (op :: rest)

/-- Store bytes at rising addresses from `addr`; what would lie above 0xFFFF is not stored. -/
def Memory.storeFrom (m : Memory) (addr : Nat) : List Byte → Memory
  | [] => m
  | v :: vs => if addr < Config.memSize then Memory.storeFrom (m.write addr v) (addr + 1) vs else m

/-- The instruction of the table word stored at PC (log entry 2). -/
def State.storeAtPc (s : State) (bytes : List Byte) : State := { s with mem := s.mem.storeFrom s.pc.toNat bytes }

end Sys2Proof.Machine
end

