-- ==== Sys2Proof/Machine/Step.lean ====
section
/-! DEFINITION. The step (spec/47_misc_control.md R280): fetch, decode, run one instruction. -/

namespace Sys2Proof.Machine

/-- One step. The latch HALTED is not read (R280, decision D10). A fetch outside memory faults; fetched bytes always
decode, because both tables are total (R83), so the refusal is reached by no state. -/
def step (s : State) : Host.Outcome State Fault Refusal :=
  match fetch s with
  | .error f => .fault f
  | .ok bytes =>
    match decode bytes with
    | .error _ => .refused .undecodable
    | .ok (i, _) => exec i s

/-- The state with the instruction of the table word `w` stored at PC, where the step fetches. -/
def State.withFetchWord (s : State) (nbits w : Nat) : State := s.storeAtPc (tableBytes nbits w)

end Sys2Proof.Machine
end

