-- ==== Sys2Proof/Machine/Disassembler.lean ====
section
/-! DEFINITION. `Disassemble(memory, pc)` (spec/30_encoding.md R100, R102): a pure function from a memory snapshot and an
address to the instruction's text and length. It changes no state and the step does not use it. -/

namespace Sys2Proof.Machine

/-- A hexadecimal digit. -/
def hexDigit (n : Nat) : Char := ['0', '1', '2', '3', '4', '5', '6', '7', '8', '9', 'A', 'B', 'C', 'D', 'E', 'F'].getD n '0'

/-- A byte as two hexadecimal digits. -/
def hexByte (n : Byte) : List Char := [hexDigit (n.toNat / 16), hexDigit (n.toNat % 16)]

/-- An 8-bit immediate: `0x` and two digits (R9, R100). -/
def text8 (n : Byte) : String := "0x" ++ String.ofList (hexByte n)

/-- A 16-bit immediate: `0x` and four digits. -/
def text16 (nn : Word) : String := "0x" ++ String.ofList (hexByte (hi8 nn) ++ hexByte (lo8 nn))

/-- The decimal digits of a number up to 999, without leading zeros. -/
def decimal (n : Nat) : List Char :=
  if n < 10 then [hexDigit n]
  else if n < 100 then [hexDigit (n / 10), hexDigit (n % 10)]
  else [hexDigit (n / 100), hexDigit (n / 10 % 10), hexDigit (n % 10)]

/-- A signed displacement, written with its sign (R100). -/
def textE (e : Byte) : String :=
  if e.getLsbD 7 then "-" ++ String.ofList (decimal (256 - e.toNat)) else "+" ++ String.ofList (decimal e.toNat)

/-- The assembler text of an instruction (R100): mnemonic, then the operands, destination first. -/
def Instr.text : Instr → String
  | .ldBC_nn nn => "LD BC," ++ text16 nn
  | .ldB_n n => "LD B," ++ text8 n
  | .ldIndNN_SP nn => "LD (" ++ text16 nn ++ "),SP"
  | .ldC_n n => "LD C," ++ text8 n
  | .ldDE_nn nn => "LD DE," ++ text16 nn
  | .ldD_n n => "LD D," ++ text8 n
  | .jr_e e => "JR " ++ textE e
  | .ldE_n n => "LD E," ++ text8 n
  | .jrNZ_e e => "JR NZ," ++ textE e
  | .ldHL_nn nn => "LD HL," ++ text16 nn
  | .ldH_n n => "LD H," ++ text8 n
  | .jrZ_e e => "JR Z," ++ textE e
  | .ldL_n n => "LD L," ++ text8 n
  | .jrNC_e e => "JR NC," ++ textE e
  | .ldSP_nn nn => "LD SP," ++ text16 nn
  | .ldIndHL_n n => "LD (HL)," ++ text8 n
  | .jrC_e e => "JR C," ++ textE e
  | .ldA_n n => "LD A," ++ text8 n
  | .jpNZ_nn nn => "JP NZ," ++ text16 nn
  | .jp_nn nn => "JP " ++ text16 nn
  | .callNZ_nn nn => "CALL NZ," ++ text16 nn
  | .addA_n n => "ADD A," ++ text8 n
  | .jpZ_nn nn => "JP Z," ++ text16 nn
  | .callZ_nn nn => "CALL Z," ++ text16 nn
  | .call_nn nn => "CALL " ++ text16 nn
  | .adcA_n n => "ADC A," ++ text8 n
  | .jpNC_nn nn => "JP NC," ++ text16 nn
  | .callNC_nn nn => "CALL NC," ++ text16 nn
  | .sub_n n => "SUB " ++ text8 n
  | .jpC_nn nn => "JP C," ++ text16 nn
  | .callC_nn nn => "CALL C," ++ text16 nn
  | .sbcA_n n => "SBC A," ++ text8 n
  | .ldhIndN_A n => "LDH (" ++ text8 n ++ "),A"
  | .and_n n => "AND " ++ text8 n
  | .addSP_e e => "ADD SP," ++ textE e
  | .ldIndNN_A nn => "LD (" ++ text16 nn ++ "),A"
  | .xor_n n => "XOR " ++ text8 n
  | .ldhA_IndN n => "LDH A,(" ++ text8 n ++ ")"
  | .or_n n => "OR " ++ text8 n
  | .ldHL_SPe e => "LD HL,SP" ++ textE e
  | .ldA_IndNN nn => "LD A,(" ++ text16 nn ++ ")"
  | .cp_n n => "CP " ++ text8 n
  | .nop => "NOP"
  | .ldIndBC_A => "LD (BC),A"
  | .incBC => "INC BC"
  | .incB => "INC B"
  | .decB => "DEC B"
  | .rlca => "RLCA"
  | .addHL_BC => "ADD HL,BC"
  | .ldA_IndBC => "LD A,(BC)"
  | .decBC => "DEC BC"
  | .incC => "INC C"
  | .decC => "DEC C"
  | .rrca => "RRCA"
  | .stop => "STOP"
  | .ldIndDE_A => "LD (DE),A"
  | .incDE => "INC DE"
  | .incD => "INC D"
  | .decD => "DEC D"
  | .rla => "RLA"
  | .addHL_DE => "ADD HL,DE"
  | .ldA_IndDE => "LD A,(DE)"
  | .decDE => "DEC DE"
  | .incE => "INC E"
  | .decE => "DEC E"
  | .rra => "RRA"
  | .ldIndHLInc_A => "LD (HL+),A"
  | .incHL => "INC HL"
  | .incH => "INC H"
  | .decH => "DEC H"
  | .daa => "DAA"
  | .addHL_HL => "ADD HL,HL"
  | .ldA_IndHLInc => "LD A,(HL+)"
  | .decHL => "DEC HL"
  | .incL => "INC L"
  | .decL => "DEC L"
  | .cpl => "CPL"
  | .ldIndHLDec_A => "LD (HL-),A"
  | .incSP => "INC SP"
  | .incIndHL => "INC (HL)"
  | .decIndHL => "DEC (HL)"
  | .scf => "SCF"
  | .addHL_SP => "ADD HL,SP"
  | .ldA_IndHLDec => "LD A,(HL-)"
  | .decSP => "DEC SP"
  | .incA => "INC A"
  | .decA => "DEC A"
  | .ccf => "CCF"
  | .ldB_B => "LD B,B"
  | .ldB_C => "LD B,C"
  | .ldB_D => "LD B,D"
  | .ldB_E => "LD B,E"
  | .ldB_H => "LD B,H"
  | .ldB_L => "LD B,L"
  | .ldB_IndHL => "LD B,(HL)"
  | .ldB_A => "LD B,A"
  | .ldC_B => "LD C,B"
  | .ldC_C => "LD C,C"
  | .ldC_D => "LD C,D"
  | .ldC_E => "LD C,E"
  | .ldC_H => "LD C,H"
  | .ldC_L => "LD C,L"
  | .ldC_IndHL => "LD C,(HL)"
  | .ldC_A => "LD C,A"
  | .ldD_B => "LD D,B"
  | .ldD_C => "LD D,C"
  | .ldD_D => "LD D,D"
  | .ldD_E => "LD D,E"
  | .ldD_H => "LD D,H"
  | .ldD_L => "LD D,L"
  | .ldD_IndHL => "LD D,(HL)"
  | .ldD_A => "LD D,A"
  | .ldE_B => "LD E,B"
  | .ldE_C => "LD E,C"
  | .ldE_D => "LD E,D"
  | .ldE_E => "LD E,E"
  | .ldE_H => "LD E,H"
  | .ldE_L => "LD E,L"
  | .ldE_IndHL => "LD E,(HL)"
  | .ldE_A => "LD E,A"
  | .ldH_B => "LD H,B"
  | .ldH_C => "LD H,C"
  | .ldH_D => "LD H,D"
  | .ldH_E => "LD H,E"
  | .ldH_H => "LD H,H"
  | .ldH_L => "LD H,L"
  | .ldH_IndHL => "LD H,(HL)"
  | .ldH_A => "LD H,A"
  | .ldL_B => "LD L,B"
  | .ldL_C => "LD L,C"
  | .ldL_D => "LD L,D"
  | .ldL_E => "LD L,E"
  | .ldL_H => "LD L,H"
  | .ldL_L => "LD L,L"
  | .ldL_IndHL => "LD L,(HL)"
  | .ldL_A => "LD L,A"
  | .ldIndHL_B => "LD (HL),B"
  | .ldIndHL_C => "LD (HL),C"
  | .ldIndHL_D => "LD (HL),D"
  | .ldIndHL_E => "LD (HL),E"
  | .ldIndHL_H => "LD (HL),H"
  | .ldIndHL_L => "LD (HL),L"
  | .halt => "HALT"
  | .ldIndHL_A => "LD (HL),A"
  | .ldA_B => "LD A,B"
  | .ldA_C => "LD A,C"
  | .ldA_D => "LD A,D"
  | .ldA_E => "LD A,E"
  | .ldA_H => "LD A,H"
  | .ldA_L => "LD A,L"
  | .ldA_IndHL => "LD A,(HL)"
  | .ldA_A => "LD A,A"
  | .addA_B => "ADD A,B"
  | .addA_C => "ADD A,C"
  | .addA_D => "ADD A,D"
  | .addA_E => "ADD A,E"
  | .addA_H => "ADD A,H"
  | .addA_L => "ADD A,L"
  | .addA_IndHL => "ADD A,(HL)"
  | .addA_A => "ADD A,A"
  | .adcA_B => "ADC A,B"
  | .adcA_C => "ADC A,C"
  | .adcA_D => "ADC A,D"
  | .adcA_E => "ADC A,E"
  | .adcA_H => "ADC A,H"
  | .adcA_L => "ADC A,L"
  | .adcA_IndHL => "ADC A,(HL)"
  | .adcA_A => "ADC A,A"
  | .subB => "SUB B"
  | .subC => "SUB C"
  | .subD => "SUB D"
  | .subE => "SUB E"
  | .subH => "SUB H"
  | .subL => "SUB L"
  | .subIndHL => "SUB (HL)"
  | .subA => "SUB A"
  | .sbcA_B => "SBC A,B"
  | .sbcA_C => "SBC A,C"
  | .sbcA_D => "SBC A,D"
  | .sbcA_E => "SBC A,E"
  | .sbcA_H => "SBC A,H"
  | .sbcA_L => "SBC A,L"
  | .sbcA_IndHL => "SBC A,(HL)"
  | .sbcA_A => "SBC A,A"
  | .andB => "AND B"
  | .andC => "AND C"
  | .andD => "AND D"
  | .andE => "AND E"
  | .andH => "AND H"
  | .andL => "AND L"
  | .andIndHL => "AND (HL)"
  | .andA => "AND A"
  | .xorB => "XOR B"
  | .xorC => "XOR C"
  | .xorD => "XOR D"
  | .xorE => "XOR E"
  | .xorH => "XOR H"
  | .xorL => "XOR L"
  | .xorIndHL => "XOR (HL)"
  | .xorA => "XOR A"
  | .orB => "OR B"
  | .orC => "OR C"
  | .orD => "OR D"
  | .orE => "OR E"
  | .orH => "OR H"
  | .orL => "OR L"
  | .orIndHL => "OR (HL)"
  | .orA => "OR A"
  | .cpB => "CP B"
  | .cpC => "CP C"
  | .cpD => "CP D"
  | .cpE => "CP E"
  | .cpH => "CP H"
  | .cpL => "CP L"
  | .cpIndHL => "CP (HL)"
  | .cpA => "CP A"
  | .retNZ => "RET NZ"
  | .popBC => "POP BC"
  | .pushBC => "PUSH BC"
  | .rst00 => "RST 0x00"
  | .retZ => "RET Z"
  | .ret => "RET"
  | .prefixCB => "PREFIX CB"
  | .rst08 => "RST 0x08"
  | .retNC => "RET NC"
  | .popDE => "POP DE"
  | .undefD3 => "UNDEF_D3"
  | .pushDE => "PUSH DE"
  | .rst10 => "RST 0x10"
  | .retC => "RET C"
  | .reti => "RETI"
  | .undefDB => "UNDEF_DB"
  | .undefDD => "UNDEF_DD"
  | .rst18 => "RST 0x18"
  | .popHL => "POP HL"
  | .ldIndC_A => "LD (C),A"
  | .undefE3 => "UNDEF_E3"
  | .undefE4 => "UNDEF_E4"
  | .pushHL => "PUSH HL"
  | .rst20 => "RST 0x20"
  | .jpIndHL => "JP (HL)"
  | .undefEB => "UNDEF_EB"
  | .undefEC => "UNDEF_EC"
  | .undefED => "UNDEF_ED"
  | .rst28 => "RST 0x28"
  | .popAF => "POP AF"
  | .ldA_IndC => "LD A,(C)"
  | .di => "DI"
  | .undefF4 => "UNDEF_F4"
  | .pushAF => "PUSH AF"
  | .rst30 => "RST 0x30"
  | .ldSP_HL => "LD SP,HL"
  | .ei => "EI"
  | .undefFC => "UNDEF_FC"
  | .undefFD => "UNDEF_FD"
  | .rst38 => "RST 0x38"
  | .rlcB => "RLC B"
  | .rlcC => "RLC C"
  | .rlcD => "RLC D"
  | .rlcE => "RLC E"
  | .rlcH => "RLC H"
  | .rlcL => "RLC L"
  | .rlcIndHL => "RLC (HL)"
  | .rlcA => "RLC A"
  | .rrcB => "RRC B"
  | .rrcC => "RRC C"
  | .rrcD => "RRC D"
  | .rrcE => "RRC E"
  | .rrcH => "RRC H"
  | .rrcL => "RRC L"
  | .rrcIndHL => "RRC (HL)"
  | .rrcA => "RRC A"
  | .rlB => "RL B"
  | .rlC => "RL C"
  | .rlD => "RL D"
  | .rlE => "RL E"
  | .rlH => "RL H"
  | .rlL => "RL L"
  | .rlIndHL => "RL (HL)"
  | .rlA => "RL A"
  | .rrB => "RR B"
  | .rrC => "RR C"
  | .rrD => "RR D"
  | .rrE => "RR E"
  | .rrH => "RR H"
  | .rrL => "RR L"
  | .rrIndHL => "RR (HL)"
  | .rrA => "RR A"
  | .slaB => "SLA B"
  | .slaC => "SLA C"
  | .slaD => "SLA D"
  | .slaE => "SLA E"
  | .slaH => "SLA H"
  | .slaL => "SLA L"
  | .slaIndHL => "SLA (HL)"
  | .slaA => "SLA A"
  | .sraB => "SRA B"
  | .sraC => "SRA C"
  | .sraD => "SRA D"
  | .sraE => "SRA E"
  | .sraH => "SRA H"
  | .sraL => "SRA L"
  | .sraIndHL => "SRA (HL)"
  | .sraA => "SRA A"
  | .swapB => "SWAP B"
  | .swapC => "SWAP C"
  | .swapD => "SWAP D"
  | .swapE => "SWAP E"
  | .swapH => "SWAP H"
  | .swapL => "SWAP L"
  | .swapIndHL => "SWAP (HL)"
  | .swapA => "SWAP A"
  | .srlB => "SRL B"
  | .srlC => "SRL C"
  | .srlD => "SRL D"
  | .srlE => "SRL E"
  | .srlH => "SRL H"
  | .srlL => "SRL L"
  | .srlIndHL => "SRL (HL)"
  | .srlA => "SRL A"
  | .bit0_B => "BIT 0,B"
  | .bit0_C => "BIT 0,C"
  | .bit0_D => "BIT 0,D"
  | .bit0_E => "BIT 0,E"
  | .bit0_H => "BIT 0,H"
  | .bit0_L => "BIT 0,L"
  | .bit0_IndHL => "BIT 0,(HL)"
  | .bit0_A => "BIT 0,A"
  | .bit1_B => "BIT 1,B"
  | .bit1_C => "BIT 1,C"
  | .bit1_D => "BIT 1,D"
  | .bit1_E => "BIT 1,E"
  | .bit1_H => "BIT 1,H"
  | .bit1_L => "BIT 1,L"
  | .bit1_IndHL => "BIT 1,(HL)"
  | .bit1_A => "BIT 1,A"
  | .bit2_B => "BIT 2,B"
  | .bit2_C => "BIT 2,C"
  | .bit2_D => "BIT 2,D"
  | .bit2_E => "BIT 2,E"
  | .bit2_H => "BIT 2,H"
  | .bit2_L => "BIT 2,L"
  | .bit2_IndHL => "BIT 2,(HL)"
  | .bit2_A => "BIT 2,A"
  | .bit3_B => "BIT 3,B"
  | .bit3_C => "BIT 3,C"
  | .bit3_D => "BIT 3,D"
  | .bit3_E => "BIT 3,E"
  | .bit3_H => "BIT 3,H"
  | .bit3_L => "BIT 3,L"
  | .bit3_IndHL => "BIT 3,(HL)"
  | .bit3_A => "BIT 3,A"
  | .bit4_B => "BIT 4,B"
  | .bit4_C => "BIT 4,C"
  | .bit4_D => "BIT 4,D"
  | .bit4_E => "BIT 4,E"
  | .bit4_H => "BIT 4,H"
  | .bit4_L => "BIT 4,L"
  | .bit4_IndHL => "BIT 4,(HL)"
  | .bit4_A => "BIT 4,A"
  | .bit5_B => "BIT 5,B"
  | .bit5_C => "BIT 5,C"
  | .bit5_D => "BIT 5,D"
  | .bit5_E => "BIT 5,E"
  | .bit5_H => "BIT 5,H"
  | .bit5_L => "BIT 5,L"
  | .bit5_IndHL => "BIT 5,(HL)"
  | .bit5_A => "BIT 5,A"
  | .bit6_B => "BIT 6,B"
  | .bit6_C => "BIT 6,C"
  | .bit6_D => "BIT 6,D"
  | .bit6_E => "BIT 6,E"
  | .bit6_H => "BIT 6,H"
  | .bit6_L => "BIT 6,L"
  | .bit6_IndHL => "BIT 6,(HL)"
  | .bit6_A => "BIT 6,A"
  | .bit7_B => "BIT 7,B"
  | .bit7_C => "BIT 7,C"
  | .bit7_D => "BIT 7,D"
  | .bit7_E => "BIT 7,E"
  | .bit7_H => "BIT 7,H"
  | .bit7_L => "BIT 7,L"
  | .bit7_IndHL => "BIT 7,(HL)"
  | .bit7_A => "BIT 7,A"
  | .res0_B => "RES 0,B"
  | .res0_C => "RES 0,C"
  | .res0_D => "RES 0,D"
  | .res0_E => "RES 0,E"
  | .res0_H => "RES 0,H"
  | .res0_L => "RES 0,L"
  | .res0_IndHL => "RES 0,(HL)"
  | .res0_A => "RES 0,A"
  | .res1_B => "RES 1,B"
  | .res1_C => "RES 1,C"
  | .res1_D => "RES 1,D"
  | .res1_E => "RES 1,E"
  | .res1_H => "RES 1,H"
  | .res1_L => "RES 1,L"
  | .res1_IndHL => "RES 1,(HL)"
  | .res1_A => "RES 1,A"
  | .res2_B => "RES 2,B"
  | .res2_C => "RES 2,C"
  | .res2_D => "RES 2,D"
  | .res2_E => "RES 2,E"
  | .res2_H => "RES 2,H"
  | .res2_L => "RES 2,L"
  | .res2_IndHL => "RES 2,(HL)"
  | .res2_A => "RES 2,A"
  | .res3_B => "RES 3,B"
  | .res3_C => "RES 3,C"
  | .res3_D => "RES 3,D"
  | .res3_E => "RES 3,E"
  | .res3_H => "RES 3,H"
  | .res3_L => "RES 3,L"
  | .res3_IndHL => "RES 3,(HL)"
  | .res3_A => "RES 3,A"
  | .res4_B => "RES 4,B"
  | .res4_C => "RES 4,C"
  | .res4_D => "RES 4,D"
  | .res4_E => "RES 4,E"
  | .res4_H => "RES 4,H"
  | .res4_L => "RES 4,L"
  | .res4_IndHL => "RES 4,(HL)"
  | .res4_A => "RES 4,A"
  | .res5_B => "RES 5,B"
  | .res5_C => "RES 5,C"
  | .res5_D => "RES 5,D"
  | .res5_E => "RES 5,E"
  | .res5_H => "RES 5,H"
  | .res5_L => "RES 5,L"
  | .res5_IndHL => "RES 5,(HL)"
  | .res5_A => "RES 5,A"
  | .res6_B => "RES 6,B"
  | .res6_C => "RES 6,C"
  | .res6_D => "RES 6,D"
  | .res6_E => "RES 6,E"
  | .res6_H => "RES 6,H"
  | .res6_L => "RES 6,L"
  | .res6_IndHL => "RES 6,(HL)"
  | .res6_A => "RES 6,A"
  | .res7_B => "RES 7,B"
  | .res7_C => "RES 7,C"
  | .res7_D => "RES 7,D"
  | .res7_E => "RES 7,E"
  | .res7_H => "RES 7,H"
  | .res7_L => "RES 7,L"
  | .res7_IndHL => "RES 7,(HL)"
  | .res7_A => "RES 7,A"
  | .set0_B => "SET 0,B"
  | .set0_C => "SET 0,C"
  | .set0_D => "SET 0,D"
  | .set0_E => "SET 0,E"
  | .set0_H => "SET 0,H"
  | .set0_L => "SET 0,L"
  | .set0_IndHL => "SET 0,(HL)"
  | .set0_A => "SET 0,A"
  | .set1_B => "SET 1,B"
  | .set1_C => "SET 1,C"
  | .set1_D => "SET 1,D"
  | .set1_E => "SET 1,E"
  | .set1_H => "SET 1,H"
  | .set1_L => "SET 1,L"
  | .set1_IndHL => "SET 1,(HL)"
  | .set1_A => "SET 1,A"
  | .set2_B => "SET 2,B"
  | .set2_C => "SET 2,C"
  | .set2_D => "SET 2,D"
  | .set2_E => "SET 2,E"
  | .set2_H => "SET 2,H"
  | .set2_L => "SET 2,L"
  | .set2_IndHL => "SET 2,(HL)"
  | .set2_A => "SET 2,A"
  | .set3_B => "SET 3,B"
  | .set3_C => "SET 3,C"
  | .set3_D => "SET 3,D"
  | .set3_E => "SET 3,E"
  | .set3_H => "SET 3,H"
  | .set3_L => "SET 3,L"
  | .set3_IndHL => "SET 3,(HL)"
  | .set3_A => "SET 3,A"
  | .set4_B => "SET 4,B"
  | .set4_C => "SET 4,C"
  | .set4_D => "SET 4,D"
  | .set4_E => "SET 4,E"
  | .set4_H => "SET 4,H"
  | .set4_L => "SET 4,L"
  | .set4_IndHL => "SET 4,(HL)"
  | .set4_A => "SET 4,A"
  | .set5_B => "SET 5,B"
  | .set5_C => "SET 5,C"
  | .set5_D => "SET 5,D"
  | .set5_E => "SET 5,E"
  | .set5_H => "SET 5,H"
  | .set5_L => "SET 5,L"
  | .set5_IndHL => "SET 5,(HL)"
  | .set5_A => "SET 5,A"
  | .set6_B => "SET 6,B"
  | .set6_C => "SET 6,C"
  | .set6_D => "SET 6,D"
  | .set6_E => "SET 6,E"
  | .set6_H => "SET 6,H"
  | .set6_L => "SET 6,L"
  | .set6_IndHL => "SET 6,(HL)"
  | .set6_A => "SET 6,A"
  | .set7_B => "SET 7,B"
  | .set7_C => "SET 7,C"
  | .set7_D => "SET 7,D"
  | .set7_E => "SET 7,E"
  | .set7_H => "SET 7,H"
  | .set7_L => "SET 7,L"
  | .set7_IndHL => "SET 7,(HL)"
  | .set7_A => "SET 7,A"

/-- The bytes of memory from an address upwards, at most `n`, none above 0xFFFF. -/
def Memory.bytesFrom (m : Memory) (addr : Nat) : Nat → List Byte
  | 0 => []
  | n + 1 => if addr < Config.memSize then m.read addr :: Memory.bytesFrom m (addr + 1) n else []

/-- `Disassemble(memory, pc)`: the text of the instruction at `pc` and the number of bytes it occupies, by the one length
table (R102). There is none where its immediate would lie above 0xFFFF (log entry 17). -/
def disassemble (m : Memory) (pc : Word) : Option (String × Nat) :=
  match decode (m.bytesFrom pc.toNat 3) with
  | .error _ => none
  | .ok (i, _) => some (Instr.text i, i.length)

end Sys2Proof.Machine
end

