-- ==== Sys2Proof/Machine/Driver.lean ====
section
/-! DEFINITION. The driver's side of the interface (spec/00_scope.md R5): LoadMemory (spec/20_memory.md R64), IsHalted
(spec/10_state.md R27) and the run protocol (spec/70_reset_and_hazards.md R321, R323, R324). The driver executes no
instruction; during a run it changes nothing (R325). -/

namespace Sys2Proof.Machine

/-- `IsHalted()` (R27): what the driver polls after each step. -/
def isHalted (s : State) : Bool := s.halted

/-- `LoadMemory(bytes, atOffset)` (R64): copy the bytes, or refuse the call when it does not fit (decision D27). -/
def State.loadMemory (s : State) (bytes : List Byte) (atOffset : Int) : Result :=
  if atOffset < 0 ∨ atOffset + bytes.length > (Config.memSize : Int) then
    .refused (.loadOutOfBounds atOffset bytes.length)
  else .next { s with mem := s.mem.storeFrom atOffset.toNat bytes }

/-- One call of LoadMemory. -/
structure Load where
  bytes : List Byte
  atOffset : Int
  deriving DecidableEq, Repr

/-- The LoadMemory calls of the loading phase, in order; the first one that does not fit refuses the start (R323, U12). -/
def State.loadAll (s : State) : List Load → Result
  | [] => .next s
  | x :: xs =>
    match s.loadMemory x.bytes x.atOffset with
    | .next t => State.loadAll t xs
    | .fault f => .fault f
    | .refused r => .refused r

/-- The state a run starts from: the zero state with MEM_INIT built by the driver's calls (R321, R323). -/
def launch (loads : List Load) : Result := State.reset.loadAll loads

/-- How a run ends (R324), or that the step budget of the host ran out first (R328). -/
inductive RunEnd where
  | halted (s : State)
  | faulted (f : Fault)
  | refused (r : Refusal)
  | unfinished (s : State)
  deriving DecidableEq, Repr

/-- A run of at most `budget` steps: step, poll the latch, stop at the first step after which it is set or that faults
(R323, R324). -/
def runToHalt : Nat → State → RunEnd
  | 0, s => .unfinished s
  | k + 1, s =>
    match step s with
    | .next t => if isHalted t then .halted t else runToHalt k t
    | .fault f => .faulted f
    | .refused r => .refused r

/-- The state after `j` completed steps, whatever the latch says meanwhile; none where one of them does not
complete: the sequence of states a run goes through (R323, R324). -/
def stateAfter : Nat → State → Option State
  | 0, s => some s
  | j + 1, s =>
    match step s with
    | .next t => stateAfter j t
    | .fault _ => none
    | .refused _ => none

end Sys2Proof.Machine
end

