-- ==== Sys2Proof/Safety.lean ====
section
/-! DEFINITION. What a step may touch and when it faults, by the opcode bytes alone: the tables of the spec
(spec/30_encoding.md R96, spec/60_exceptions.md R300, spec/10_state.md R24, R26, spec/20_memory.md R56) written out a second
time in opcode numbers, independently of Instr and of the meanings. The statements compare the machine with them. -/

namespace Sys2Proof.Machine

/-! ### What stands at PC -/

/-- The opcode byte at PC. -/
def State.opcode (s : State) : Nat := (s.readByte s.pc).toNat

/-- The byte at PC + 1, where there is one: an 8-bit immediate or the extended opcode. -/
def State.second (s : State) : Byte := s.readByte (s.pc + 1#16)

/-- The 16-bit immediate at PC + 1 and PC + 2, low byte first (R88). -/
def State.imm16 (s : State) : Word := wordOf (s.readByte (s.pc + 2#16)) (s.readByte (s.pc + 1#16))

/-! ### Lengths -/

/-- The length table as R96 prints it, a row for each high nibble. -/
def lengthGrid : List (List Nat) :=
  [[1, 3, 1, 1, 1, 1, 2, 1, 3, 1, 1, 1, 1, 1, 2, 1],
   [2, 3, 1, 1, 1, 1, 2, 1, 2, 1, 1, 1, 1, 1, 2, 1],
   [2, 3, 1, 1, 1, 1, 2, 1, 2, 1, 1, 1, 1, 1, 2, 1],
   [2, 3, 1, 1, 1, 1, 2, 1, 2, 1, 1, 1, 1, 1, 2, 1]] ++
  List.replicate 8 (List.replicate 16 1) ++
  [[1, 1, 3, 3, 3, 1, 2, 1, 1, 1, 3, 2, 3, 3, 2, 1],
   [1, 1, 3, 1, 3, 1, 2, 1, 1, 1, 3, 1, 3, 1, 2, 1],
   [2, 1, 1, 1, 1, 1, 2, 1, 2, 1, 3, 1, 1, 1, 2, 1],
   [2, 1, 1, 1, 1, 1, 2, 1, 2, 1, 3, 1, 1, 1, 2, 1]]

/-- The entry of the length table for an opcode. -/
def gridLength (op : Nat) : Nat := ((lengthGrid[op / 16]?).getD [])[op % 16]?.getD 0

/-! ### Conditions, pushes and pops -/

/-- Does the condition in bits 4 and 3 of a conditional opcode hold (R87)? -/
def opcodeCond (op : Nat) (f : Flags) : Bool :=
  match op / 8 % 4 with
  | 0 => !f.fZ
  | 1 => f.fZ
  | 2 => !f.fC
  | _ => f.fC

/-- The opcode pushes a word: PUSH, CALL nn, RST, a taken CALL cc (R300). -/
def opcodePushes (op : Nat) (f : Flags) : Bool :=
  [0xC5, 0xD5, 0xE5, 0xF5, 0xCD, 0xC7, 0xCF, 0xD7, 0xDF, 0xE7, 0xEF, 0xF7, 0xFF].contains op ||
  ([0xC4, 0xCC, 0xD4, 0xDC].contains op && opcodeCond op f)

/-- The opcode pops a word: POP, RET, RETI, a taken RET cc (R300). -/
def opcodePops (op : Nat) (f : Flags) : Bool :=
  [0xC1, 0xD1, 0xE1, 0xF1, 0xC9, 0xD9].contains op ||
  ([0xC0, 0xC8, 0xD0, 0xD8].contains op && opcodeCond op f)

/-! ### When a step faults -/

/-- The complete list of causes of BoundsViolation, with the address each reports (R300), in the order of accesses (R304):
fetch, second byte of LD (nn),SP, pop, push. -/
def faultAddress (s : State) : Option Int :=
  let op := s.opcode
  if gridLength op = 3 ∧ s.pc.toNat ≥ 0xFFFE then some 0x10000
  else if gridLength op = 2 ∧ op ≠ 0x10 ∧ s.pc.toNat = 0xFFFF then some 0x10000
  else if op = 0x08 ∧ s.imm16.toNat = 0xFFFF then some 0x10000
  else if opcodePops op s.flags ∧ s.sp.toNat = 0xFFFF then some 0x10000
  else if opcodePushes op s.flags ∧ s.sp.toNat < 2 then some (-1)
  else none

/-! ### What a step may change -/

/-- The addresses the instruction at PC stores to (R56): computed with the expressions of the spec's address table. -/
def storedAddresses (s : State) : List Nat :=
  let op := s.opcode
  if [0x70, 0x71, 0x72, 0x73, 0x74, 0x75, 0x77, 0x36, 0x34, 0x35, 0x22, 0x32].contains op then [s.hl.toNat]
  else if op = 0x02 then [s.bc.toNat]
  else if op = 0x12 then [s.de.toNat]
  else if op = 0xEA then [s.imm16.toNat]
  else if op = 0xE0 then [0xFF00 + s.second.toNat]
  else if op = 0xE2 then [0xFF00 + s.c.toNat]
  else if op = 0x08 then [s.imm16.toNat, s.imm16.toNat + 1]
  else if opcodePushes op s.flags then [s.sp.toNat - 1, s.sp.toNat - 2]
  else if op = 0xCB ∧ s.second.toNat % 8 = 6 ∧ s.second.toNat / 64 ≠ 1 then [s.hl.toNat]
  else []

/-- The register field's number of a register (R85). -/
def regCode : Reg8 → Nat
  | .b => 0
  | .c => 1
  | .d => 2
  | .e => 3
  | .h => 4
  | .l => 5
  | .a => 7

/-- Is the register a half of the pair number p: BC, DE, HL are 0, 1, 2 (R86)? A is in none of them. -/
def regInPair (r : Reg8) (p : Nat) : Bool := r != .a && regCode r / 2 == p

/-- May the instruction with these bytes write the register? Read off the instruction rules R111 to R287. -/
def opcodeWritesReg (op o : Nat) (r : Reg8) : Bool :=
  if op < 0x40 then
    match op % 8 with
    | 1 => if op / 8 % 2 = 0 then regInPair r (op / 16) else regInPair r 2
    | 2 => (op / 8 % 2 = 1 && r == .a) || (op ≥ 0x20 && regInPair r 2)
    | 3 => regInPair r (op / 16)
    | 4 => regCode r == op / 8
    | 5 => regCode r == op / 8
    | 6 => regCode r == op / 8
    | 7 => op < 0x30 && r == .a
    | _ => false
  else if op < 0x80 then regCode r == op / 8 % 8
  else if op < 0xC0 then op < 0xB8 && r == .a
  else if op = 0xCB then o / 64 ≠ 1 && regCode r == o % 8
  else if [0xC6, 0xCE, 0xD6, 0xDE, 0xE6, 0xEE, 0xF6, 0xF0, 0xF2, 0xFA, 0xF1].contains op then r == .a
  else if [0xC1, 0xD1, 0xE1].contains op then regInPair r (op / 16 % 4)
  else op = 0xF8 && regInPair r 2

/-- What an instruction does to one flag: the four letters of the table of R26. -/
inductive FlagEffect where
  /-- `v`: computed by the rule -/
  | computed
  /-- `0`: forced false -/
  | cleared
  /-- `1`: forced true -/
  | raised
  /-- `-`: unchanged -/
  | kept
  deriving DecidableEq, Repr

/-- Does a flag's new value agree with the letter, given its old value? -/
def FlagEffect.allows (e : FlagEffect) (old new : Bool) : Bool :=
  match e with
  | .computed => true
  | .cleared => new == false
  | .raised => new == true
  | .kept => new == old

/-- A row of the table of R26, the columns in its order. -/
structure FlagRow where
  z : FlagEffect
  c : FlagEffect
  s : FlagEffect
  h : FlagEffect
  p : FlagEffect
  deriving DecidableEq, Repr

/-- The rows of the 8-bit ALU operations by their number (R93): AND is 4, XOR 5, OR 6. -/
def aluFlagRow (y : Nat) : FlagRow :=
  if y = 4 then ⟨.computed, .cleared, .computed, .raised, .computed⟩
  else if y = 5 ∨ y = 6 then ⟨.computed, .cleared, .computed, .cleared, .computed⟩
  else ⟨.computed, .computed, .computed, .computed, .computed⟩

/-- The rows of the extended opcodes (R97). -/
def extendedFlagRow (o : Nat) : FlagRow :=
  if o / 8 = 6 then ⟨.computed, .cleared, .computed, .cleared, .computed⟩
  else if o < 0x40 then ⟨.computed, .computed, .computed, .cleared, .computed⟩
  else if o < 0x80 then ⟨.computed, .kept, .computed, .raised, .computed⟩
  else ⟨.kept, .kept, .kept, .kept, .kept⟩

/-- The table of R26: which flags the instruction with these bytes writes, and the values it forces. -/
def flagRow (op o : Nat) : FlagRow :=
  if 0x80 ≤ op ∧ op < 0xC0 then aluFlagRow (op / 8 % 8)
  else if 0xC0 ≤ op ∧ op % 8 = 6 then aluFlagRow (op / 8 % 8)
  else if op < 0x40 ∧ (op % 8 = 4 ∨ op % 8 = 5) then ⟨.computed, .kept, .computed, .computed, .computed⟩
  else if op = 0x27 then ⟨.computed, .computed, .computed, .cleared, .computed⟩
  else if op = 0x2F then ⟨.kept, .kept, .kept, .raised, .kept⟩
  else if op = 0x37 then ⟨.kept, .raised, .kept, .cleared, .kept⟩
  else if op = 0x3F then ⟨.kept, .computed, .kept, .cleared, .kept⟩
  else if [0x09, 0x19, 0x29, 0x39, 0xE8, 0xF8].contains op then ⟨.cleared, .computed, .cleared, .computed, .computed⟩
  else if [0x07, 0x0F, 0x17, 0x1F].contains op then ⟨.cleared, .computed, .cleared, .cleared, .cleared⟩
  else if op = 0xCB then extendedFlagRow o
  else if op = 0xF1 then ⟨.computed, .computed, .computed, .computed, .computed⟩
  else ⟨.kept, .kept, .kept, .kept, .kept⟩

/-- Do the new flags agree with a row of the table? -/
def FlagRow.allows (row : FlagRow) (old new : Flags) : Bool :=
  row.z.allows old.fZ new.fZ && row.c.allows old.fC new.fC && row.s.allows old.fS new.fS &&
  row.h.allows old.fH new.fH && row.p.allows old.fP new.fP

/-- Does the instruction with this opcode write SP (R24)? -/
def opcodeWritesSp (op : Nat) (f : Flags) : Bool :=
  [0x31, 0x33, 0x3B, 0xF9, 0xE8].contains op || opcodePushes op f || opcodePops op f

/-- Is this a control-transfer opcode: JP, JR, CALL, RET, RETI, RST, taken or not (R260)? -/
def opcodeTransfers (op : Nat) : Bool :=
  [0x18, 0x20, 0x28, 0x30, 0x38, 0xC3, 0xC2, 0xCA, 0xD2, 0xDA, 0xE9, 0xCD, 0xC4, 0xCC, 0xD4, 0xDC, 0xC9, 0xD9,
   0xC0, 0xC8, 0xD0, 0xD8].contains op || (0xC0 ≤ op && op % 8 == 7)

/-! ### Numbers the results are stated in -/

/-- The flags of a byte result: Zero, Sign and Parity from its value (R11, R25), Carry and HalfCarry as given. -/
def flagsOf (res : Byte) (carry half : Bool) : Flags where
  fZ := decide (res.toNat = 0)
  fC := carry
  fS := decide (res.toNat ≥ 128)
  fH := half
  fP := decide (res.toNat % 2 = 0)

/-- The result of each rotate and shift as a number, from the byte and the old carry (R220). -/
def rotatedValue (op : RotOp) (v c : Nat) : Nat :=
  match op with
  | .rlc => v * 2 % 256 + v / 128
  | .rrc => v / 2 + v % 2 * 128
  | .rl => v * 2 % 256 + c
  | .rr => v / 2 + c * 128
  | .sla => v * 2 % 256
  | .sra => v / 2 + v / 128 * 128
  | .swap => v % 16 * 16 + v / 16
  | .srl => v / 2

/-- The bit that leaves the byte: the old bit 7 to the left, the old bit 0 to the right, none for SWAP (R220). -/
def rotatedOut (op : RotOp) (v : Nat) : Bool :=
  match op with
  | .rlc => decide (v / 128 = 1)
  | .rl => decide (v / 128 = 1)
  | .sla => decide (v / 128 = 1)
  | .rrc => decide (v % 2 = 1)
  | .rr => decide (v % 2 = 1)
  | .sra => decide (v % 2 = 1)
  | .srl => decide (v % 2 = 1)
  | .swap => false

/-- When a condition holds (R87). -/
def takenWhen (cc : Cond) (f : Flags) : Bool :=
  match cc with
  | .nz => f.fZ == false
  | .z => f.fZ == true
  | .nc => f.fC == false
  | .c => f.fC == true

/-- Memory after a push of the word with these two bytes: the high one at SP - 1, the low one at SP - 2 (R140). -/
def State.pushedMem (s : State) (hi lo : Byte) : Memory := (s.mem.write (s.sp.toNat - 1) hi).write (s.sp.toNat - 2) lo

/-- The packed-BCD byte of a number below 100 (the source's DAA example, R189). -/
def bcd (n : Nat) : Byte := BitVec.ofNat 8 (n / 10 * 16 + n % 10)

/-- The bytes from PC upwards, at most three, none above 0xFFFF: what an instruction at PC can consist of (R80). -/
def State.bytesAtPc (s : State) : List Byte :=
  (List.range' s.pc.toNat (min 3 (0x10000 - s.pc.toNat))).map s.mem.read

/-! ### Comparing outcomes -/

/-- Two outcomes of the same kind: next states related by `R`, or the same fault. A refusal agrees with nothing. -/
def outcomesAgree (R : State → State → Prop) : Result → Result → Prop
  | .next s, .next t => R s t
  | .fault f, .fault g => f = g
  | _, _ => False

/-- The states are equal but for Sign and Parity. -/
def equalButSignParity (s t : State) : Prop :=
  t = { s with flags := { s.flags with fS := t.flags.fS, fP := t.flags.fP } }

/-! ### Safe runs -/

/-- A step that completes (R12). -/
def completes (s : State) : Prop := ∃ t, step s = .next t

/-- No step of the run from `s` faults within `n` steps, whether or not the latch is set on the way. -/
def safeFor : Nat → State → Prop
  | 0, _ => True
  | n + 1, s => ∃ t, step s = .next t ∧ safeFor n t

end Sys2Proof.Machine
end

