-- ==== Sys2Proof/WellFormed.lean ====
section
/-! DEFINITION. Which terms of Instr are whole instructions. Every operand is a bit vector of exactly its field's width,
so no operand can be out of range; the one check is that the term is not the bare prefix. -/

namespace Sys2Proof

/-- The prefix 0xCB and the extended opcode after it are ONE instruction (R84, R287). The base-table row PREFIX CB alone,
without its second byte, is therefore no whole instruction: it is the only term the check refuses. Log entry 3. -/
def Instr.wellFormed : Instr → Bool
  | .prefixCB => false
  | _ => true

end Sys2Proof
end

