-- ==== Sys2Proof/Certificates/Slice0/Obligations.lean ====
section
/-! DEFINITION. The statements about the model, each an Obligations.<Name> : Prop. A statement that rests on a decision of
the spec (D<n>), on one of its general-knowledge passages (K<n>) or on a choice of the model says so and names the entry of
notes/assumptions. The words the statements are written in stand in Sys2Proof/Safety.lean. -/

section

open Sys2Proof Sys2Proof.Machine

/-- Decoding the bytes of any whole instruction, with any bytes after them, gives back that instruction with every
operand bit, and leaves the bytes after it. The opcode numbers are the general-knowledge map K1 (log entry 5). -/
def Obligations.DecodeInvertsEncode : Prop :=
  ∀ (i : Instr) (rest : List Byte), i.wellFormed = true → decode (encode i ++ rest) = .ok (i, rest)

/-- Whatever bytes decode to an instruction other than STOP are that instruction's encoding followed by the bytes that
are left, so each byte sequence has one meaning. STOP is 0x10 followed by any padding byte (decision D9, log entry
12). -/
def Obligations.EncodeInvertsDecode : Prop :=
  ∀ (bytes : List Byte) (i : Instr) (rest : List Byte), decode bytes = .ok (i, rest) →
    (i ≠ .stop → bytes = encode i ++ rest) ∧
    (i = .stop → ∃ tail, bytes = 0x10#8 :: tail ∧ rest = tail.drop 1)

/-- Decoding never fails: any first byte, and after 0xCB any second byte, selects one instruction, the pair of bytes
determining it, and no step ends in a refusal, so there is no illegal-instruction exception. Formalises R83. -/
def Obligations.EveryByteValueDecodes : Prop :=
  (∀ (op b c : Byte) (rest : List Byte), ∃ i left, decode (op :: b :: c :: rest) = .ok (i, left) ∧ i.wellFormed = true) ∧
  (∀ (s : State) (r : Refusal), step s ≠ .refused r)

/-- The length of an instruction is a function of its first byte, the entry of the length table printed in
30_encoding.md (R80, R96; STOP = 2 is decision D9), and the decoder consumes exactly that many bytes. -/
def Obligations.LengthsFollowTheLengthTable : Prop :=
  (∀ op : Byte, opLength op = gridLength op.toNat) ∧
  (∀ (op b c : Byte) (rest : List Byte) (i : Instr) (left : List Byte), decode (op :: b :: c :: rest) = .ok (i, left) →
    left = (op :: b :: c :: rest).drop (gridLength op.toNat) ∧ i.length = gridLength op.toNat)

/-- Where the instruction's bytes lie inside memory the disassembler gives the text of the instruction the decoder
reads there, with the length of the one length table, and a step that is no control transfer advances PC by that same
length. Formalises R102. -/
def Obligations.DisassemblerAgreesWithTheExecutor : Prop :=
  ∀ (m : Memory) (pc : Word),
    (pc.toNat + opLength (m.read pc.toNat) ≤ 0x10000 →
      ∃ i rest, decode (m.bytesFrom pc.toNat 3) = .ok (i, rest) ∧
        disassemble m pc = some (Instr.text i, opLength (m.read pc.toNat))) ∧
    (∀ text n, disassemble m pc = some (text, n) → n = opLength (m.read pc.toNat)) ∧
    (∀ (s t : State) text n, s.mem = m → s.pc = pc → disassemble m pc = some (text, n) →
      opcodeTransfers s.opcode = false → step s = .next t → t.pc = pc + BitVec.ofNat 16 n)

/-- The bytes of each instruction family as the encoding lines of the instruction rules write them: opcode plus 8
times the y field plus the z field, immediates after the opcode, low byte first. The numbers are the general-knowledge
map K1 (log entry 5). -/
def Obligations.OpcodeNumbersFollowTheEncodingLines : Prop :=
  (∀ x y : Reg8, encode (Instr.ld x y) = [BitVec.ofNat 8 (0x40 + 8 * regCode x + regCode y)]) ∧
  (∀ (r : Reg8) (n : Byte), encode (Instr.ldImm r n) = [BitVec.ofNat 8 (0x06 + 8 * regCode r), n]) ∧
  (∀ r : Reg8, encode (Instr.ldLoad r) = [BitVec.ofNat 8 (0x46 + 8 * regCode r)] ∧
    encode (Instr.ldStore r) = [BitVec.ofNat 8 (0x70 + regCode r)] ∧
    encode (Instr.inc (.reg r)) = [BitVec.ofNat 8 (0x04 + 8 * regCode r)] ∧
    encode (Instr.dec (.reg r)) = [BitVec.ofNat 8 (0x05 + 8 * regCode r)]) ∧
  (∀ y : Fin 8, (∀ r : Reg8, encode (Instr.alu (aluOf y) (.reg r)) = [BitVec.ofNat 8 (0x80 + 8 * y.val + regCode r)]) ∧
    encode (Instr.alu (aluOf y) .indHL) = [BitVec.ofNat 8 (0x86 + 8 * y.val)] ∧
    (∀ n : Byte, encode (Instr.alu (aluOf y) (.imm n)) = [BitVec.ofNat 8 (0xC6 + 8 * y.val), n]) ∧
    encode (Instr.rst y) = [BitVec.ofNat 8 (0xC7 + 8 * y.val)]) ∧
  (∀ p : Fin 4, (∀ nn : Word, encode (Instr.ldPair (pairOf p) nn) = [BitVec.ofNat 8 (0x01 + 16 * p.val), lo8 nn, hi8 nn]) ∧
    encode (Instr.incPair (pairOf p)) = [BitVec.ofNat 8 (0x03 + 16 * p.val)] ∧
    encode (Instr.addHL (pairOf p)) = [BitVec.ofNat 8 (0x09 + 16 * p.val)] ∧
    encode (Instr.decPair (pairOf p)) = [BitVec.ofNat 8 (0x0B + 16 * p.val)] ∧
    encode (Instr.pop (stackPairOf p)) = [BitVec.ofNat 8 (0xC1 + 16 * p.val)] ∧
    encode (Instr.push (stackPairOf p)) = [BitVec.ofNat 8 (0xC5 + 16 * p.val)]) ∧
  (∀ y : Fin 8, (∀ r : Reg8, encode (Instr.rot (rotOf y) (.reg r)) = [0xCB#8, BitVec.ofNat 8 (8 * y.val + regCode r)] ∧
      encode (Instr.bit y (.reg r)) = [0xCB#8, BitVec.ofNat 8 (0x40 + 8 * y.val + regCode r)] ∧
      encode (Instr.res y (.reg r)) = [0xCB#8, BitVec.ofNat 8 (0x80 + 8 * y.val + regCode r)] ∧
      encode (Instr.set y (.reg r)) = [0xCB#8, BitVec.ofNat 8 (0xC0 + 8 * y.val + regCode r)]) ∧
    encode (Instr.rot (rotOf y) .indHL) = [0xCB#8, BitVec.ofNat 8 (0x06 + 8 * y.val)] ∧
    encode (Instr.bit y .indHL) = [0xCB#8, BitVec.ofNat 8 (0x46 + 8 * y.val)] ∧
    encode (Instr.res y .indHL) = [0xCB#8, BitVec.ofNat 8 (0x86 + 8 * y.val)] ∧
    encode (Instr.set y .indHL) = [0xCB#8, BitVec.ofNat 8 (0xC6 + 8 * y.val)])

/-- Bytes taken from the examples of the instruction rules decode to the instruction the rule names, one or more for
each family. The opcode numbers are K1 (log entry 5). -/
def Obligations.SampleWordsDecode : Prop :=
  decode [0x41#8] = .ok (.ldB_C, []) ∧
  decode [0x3E#8, 0x42#8] = .ok (.ldA_n 0x42#8, []) ∧
  decode [0xFA#8, 0x34#8, 0x12#8] = .ok (.ldA_IndNN 0x1234#16, []) ∧
  decode [0xF0#8, 0x80#8] = .ok (.ldhA_IndN 0x80#8, []) ∧
  decode [0x21#8, 0x34#8, 0x12#8] = .ok (.ldHL_nn 0x1234#16, []) ∧
  decode [0x08#8, 0x00#8, 0xC1#8] = .ok (.ldIndNN_SP 0xC100#16, []) ∧
  decode [0xD1#8] = .ok (.popDE, []) ∧
  decode [0x9C#8] = .ok (.sbcA_H, []) ∧
  decode [0xFE#8, 0x3C#8] = .ok (.cp_n 0x3C#8, []) ∧
  decode [0x13#8] = .ok (.incDE, []) ∧
  decode [0xE8#8, 0x08#8] = .ok (.addSP_e 0x08#8, []) ∧
  decode [0x1F#8] = .ok (.rra, []) ∧
  decode [0xCB#8, 0x15#8] = .ok (.rlL, []) ∧
  decode [0xCB#8, 0x65#8] = .ok (.bit4_L, []) ∧
  decode [0xCB#8, 0x9E#8] = .ok (.res3_IndHL, []) ∧
  decode [0xCB#8, 0xFF#8] = .ok (.set7_A, []) ∧
  decode [0x20#8, 0x05#8] = .ok (.jrNZ_e 0x05#8, []) ∧
  decode [0xC4#8, 0x00#8, 0x30#8] = .ok (.callNZ_nn 0x3000#16, []) ∧
  decode [0xCF#8] = .ok (.rst08, []) ∧
  decode [0x76#8] = .ok (.halt, []) ∧
  decode [0xED#8] = .ok (.undefED, [])

/-- PREFIX CB fetches the byte at PC + 1 and runs the handler it selects, as one instruction and one step that
advances PC by 2; at PC = 0xFFFF it raises BoundsViolation(0x10000). Every value of the second byte is defined and a
second 0xCB is SET 1,E, not a further prefix. The same of the base-table row PREFIX CB as a meaning of its own.
Formalises R84, R287. -/
def Obligations.PrefixDispatchesToTheExtendedTable : Prop :=
  (∀ (o : Byte) (rest : List Byte), decode (0xCB#8 :: o :: rest) = .ok (extendedEntry o, rest)) ∧
  extendedEntry 0xCB#8 = .set1_E ∧
  (∀ s : State, s.pc.toNat < 0xFFFF →
    exec .prefixCB s = exec (extendedEntry s.second) s ∧ ∃ t, exec .prefixCB s = .next t ∧ t.pc = s.pc + 2#16) ∧
  (∀ s : State, s.pc.toNat = 0xFFFF → exec .prefixCB s = .fault (.boundsViolation 0x10000)) ∧
  (∀ s : State, s.opcode = 0xCB → step s = exec .prefixCB s)

/-- When the bytes at PC decode to a whole instruction, a step is exec of it at the same state, nothing added; when
the bytes of the instruction reach above 0xFFFF (a missing immediate, or the prefix 0xCB at 0xFFFF) a step raises
BoundsViolation(0x10000). -/
def Obligations.StepRunsTheDecodedInstruction : Prop :=
  ∀ s : State,
    (∀ i rest, decode s.bytesAtPc = .ok (i, rest) → i.wellFormed = true → step s = exec i s) ∧
    (∀ i rest, decode s.bytesAtPc = .ok (i, rest) → i.wellFormed = false → step s = .fault (.boundsViolation 0x10000)) ∧
    (∀ e, decode s.bytesAtPc = .error e → step s = .fault (.boundsViolation 0x10000))

/-- Every step ends in a next state or in BoundsViolation, whose address is 0x10000 or -1: no refusal and no other
fault. RST is no software trap: it changes memory, SP and PC only; the eleven undefined opcodes of decision D8 (log
entry 12) only advance PC. That the address is one of these two is R300, which rests on decision D2 (log entry 18). -/
def Obligations.StepHasNoOtherException : Prop :=
  (∀ s : State,
    (∃ t, step s = .next t) ∨ step s = .fault (.boundsViolation 0x10000) ∨ step s = .fault (.boundsViolation (-1))) ∧
  (∀ (n : Fin 8) (s : State), 2 ≤ s.sp.toNat →
    ∃ t, exec (Instr.rst n) s = .next t ∧ t = { s with mem := t.mem, sp := t.sp, pc := t.pc }) ∧
  (∀ (i : Instr) (s : State), i ∈ ([.undefD3, .undefDB, .undefDD, .undefE3, .undefE4, .undefEB, .undefEC, .undefED,
    .undefF4, .undefFC, .undefFD] : List Instr) → exec i s = .next { s with pc := s.pc + 1#16 })

/-- A step raises BoundsViolation exactly in the cases of the table of 60_exceptions.md R300, with the address it
gives, the fetch before the data accesses (R304); in every other state it completes. Which address expressions wrap
and that an untaken conditional still fetches its immediate is decision D2 (log entry 18). -/
def Obligations.StepFaultsExactlyAsTheCauseTableSays : Prop :=
  ∀ s : State,
    (∀ addr, faultAddress s = some addr → step s = .fault (.boundsViolation addr)) ∧
    (faultAddress s = none → ∃ t, step s = .next t)

/-- If memory has its canonical form (addresses strictly rising and below 65,536, no entry equal to what an unlisted
address reads as) it has it after every completed step, so no step lists a byte outside 0x0000 to 0xFFFF. -/
def Obligations.EveryStepKeepsTheMemoryForm : Prop :=
  ∀ s t : State, s.mem.wf → step s = .next t → t.mem.wf

/-- The memory of the reset state has the canonical form that every step keeps. -/
def Obligations.ResetMemoryHasTheForm : Prop :=
  State.reset.mem.wf

/-- After reset every register reads 0x00, all flags are false, PC = SP = 0x0000, HALTED is false, and every byte of
memory reads 0x00: the image no LoadMemory call has touched is decision D20 of the spec and log entry 2 of the model.
-/
def Obligations.ResetIsAllZero : Prop :=
  (∀ r : Reg8, State.reset.reg r = 0x00#8) ∧
  State.reset.flags = { fZ := false, fC := false, fS := false, fH := false, fP := false } ∧
  State.reset.pc = 0x0000#16 ∧ State.reset.sp = 0x0000#16 ∧ State.reset.halted = false ∧
  (∀ addr : Nat, State.reset.mem.read addr = 0x00#8)

/-- A completed step leaves HALTED as it was, except that the opcode 0x76 sets it; no instruction clears it; no step
reads it: with the latch changed the step does the same and ends with the latch changed accordingly (R27; decision
D10, log entry 13). -/
def Obligations.OnlyHaltSetsTheLatch : Prop :=
  (∀ s t : State, step s = .next t → t.halted = (s.halted || decide (s.opcode = 0x76))) ∧
  (∀ (s : State) (b : Bool), outcomesAgree (fun t u => u = { t with halted := b || decide (s.opcode = 0x76) })
    (step s) (step { s with halted := b })) ∧
  (∀ s : State, isHalted s = s.halted)

/-- No instruction but PUSH AF reads Sign or Parity: from two states that differ only there, a step whose opcode is
not 0xF5 gives the same fault, or next states that differ only there (R25, R30). -/
def Obligations.SignAndParityReachOnlyPushAf : Prop :=
  ∀ (s : State) (sign parity : Bool), s.opcode ≠ 0xF5 →
    outcomesAgree equalButSignParity (step s) (step { s with flags := { s.flags with fS := sign, fP := parity } })

/-- After a completed step each of the five flags is unchanged, false or true where the table of 10_state.md R26 says
-, 0 or 1 for the instruction at PC; only a flag the table marks v may take a computed value. The rows CPL, SCF, CCF,
INC rr, DEC rr, ADD SP,e, LD HL,SP+e, RES, SET rest on decisions D13, D14, D15, D19 (log entries 9 to 11). -/
def Obligations.FlagsChangeAsTheFlagTableSays : Prop :=
  ∀ s t : State, step s = .next t → (flagRow s.opcode s.second.toNat).allows s.flags t.flags = true

/-- A completed step leaves every one of A, B, C, D, E, H, L unchanged except the destination of the instruction at
PC: the register or pair its rule writes, HL of LD (HL+),A and its like, HL of ADD HL,rr and LD HL,SP+e, A of the
accumulator instructions and POP AF. -/
def Obligations.RegistersChangeOnlyWhereWritten : Prop :=
  ∀ (s t : State) (r : Reg8), step s = .next t → opcodeWritesReg s.opcode s.second.toNat r = false → t.reg r = s.reg r

/-- A completed step leaves SP unchanged unless the instruction at PC is LD SP,nn, LD SP,HL, INC SP, DEC SP, ADD SP,e,
a push (PUSH, CALL, taken CALL cc, RST), which lowers SP by 2, or a pop (POP, RET, RETI, taken RET cc), which raises
SP by 2, mod 65536 (R24; wrapping is decision D2, log entry 18). -/
def Obligations.StackPointerChangesOnlyWhereWritten : Prop :=
  ∀ s t : State, step s = .next t →
    (opcodeWritesSp s.opcode s.flags = false → t.sp = s.sp) ∧
    (opcodePushes s.opcode s.flags = true → t.sp = s.sp - 2#16) ∧
    (opcodePops s.opcode s.flags = true → t.sp = s.sp + 2#16)

/-- A completed step of an instruction that is no control transfer advances PC by the length the length table gives
its first byte, mod 65536 (R23, R96; STOP = 2 is decision D9). -/
def Obligations.PcAdvancesByTheLength : Prop :=
  ∀ s t : State, step s = .next t → opcodeTransfers s.opcode = false →
    t.pc = s.pc + BitVec.ofNat 16 (gridLength s.opcode)

/-- Every byte of memory outside the addresses the instruction at PC stores to reads after a completed step as before.
The addresses are computed from the state before the step by the expressions of the address table R56: HL, BC, DE, nn,
nn + 1, 0xFF00 + n, 0xFF00 + C, SP - 1, SP - 2; every other instruction stores nothing. -/
def Obligations.MemoryChangesOnlyWhereStored : Prop :=
  ∀ (s t : State) (addr : Nat), step s = .next t → addr ∉ storedAddresses s → t.mem.read addr = s.mem.read addr

/-- A store is seen by the very next fetch: LD (HL),n with HL the address of the following instruction makes n the
next opcode (R62; no prefetch is decision D30, log entry 15). -/
def Obligations.NextFetchSeesTheStore : Prop :=
  ∀ s : State, s.opcode = 0x36 → s.pc.toNat ≠ 0xFFFF → s.hl = s.pc + 2#16 →
    ∃ t, step s = .next t ∧ t.pc = s.hl ∧ t.opcode = s.second.toNat

/-- Two canonical memories that read alike at every address are the same list, so that equality of states is equality
of the bytes the program sees (the model's representation, log entry 19). -/
def Obligations.CanonicalMemoriesThatReadAlikeAreEqual : Prop :=
  ∀ m n : Memory, m.wf → n.wf → (∀ addr : Nat, m.read addr = n.read addr) → m = n

/-- BC, DE and HL read as 256 times the first register plus the second; a write to a pair writes both halves and
nothing else; writing one register shows in the pair at once; and a register write is read back from that register
alone (R20, R21). -/
def Obligations.PairsAreViewsOfTheirHalves : Prop :=
  ∀ (s : State) (w : Word) (v : Byte),
    s.bc.toNat = s.b.toNat * 256 + s.c.toNat ∧ s.de.toNat = s.d.toNat * 256 + s.e.toNat ∧
    s.hl.toNat = s.h.toNat * 256 + s.l.toNat ∧
    s.setPair .bc w = { s with b := BitVec.ofNat 8 (w.toNat / 256), c := BitVec.ofNat 8 w.toNat } ∧
    s.setPair .de w = { s with d := BitVec.ofNat 8 (w.toNat / 256), e := BitVec.ofNat 8 w.toNat } ∧
    s.setPair .hl w = { s with h := BitVec.ofNat 8 (w.toNat / 256), l := BitVec.ofNat 8 w.toNat } ∧
    s.setPair .sp w = { s with sp := w } ∧
    (s.setReg .b v).bc.toNat = v.toNat * 256 + s.c.toNat ∧
    (∀ r q : Reg8, (s.setReg r v).reg q = if q = r then v else s.reg q)

/-- LD r,r' for all 49 pairs of registers copies the byte, advances PC by 1, and changes nothing else: no flag, no
other register, no memory (R111; which loads exist is K1, log entry 5). -/
def Obligations.LdRegisterFromRegister : Prop :=
  ∀ (x y : Reg8) (s : State), exec (Instr.ld x y) s = .next { s.setReg x (s.reg y) with pc := s.pc + 1#16 }

/-- LD r,n loads the immediate, advances PC by 2, and changes nothing else (R112; K1, log entry 5). -/
def Obligations.LdRegisterImmediate : Prop :=
  ∀ (r : Reg8) (n : Byte) (s : State), exec (Instr.ldImm r n) s = .next { s.setReg r n with pc := s.pc + 2#16 }

/-- LD r,(HL) loads the byte at HL; LD (HL),r and LD (HL),n store at HL and nowhere else, H and L of the address
included as sources; PC advances by 1, by 2 with an immediate; nothing else changes (R113 to R115; K1, log entry 5).
-/
def Obligations.LoadsAndStoresThroughHL : Prop :=
  ∀ (r : Reg8) (n : Byte) (s : State),
    exec (Instr.ldLoad r) s = .next { s.setReg r (s.mem.read s.hl.toNat) with pc := s.pc + 1#16 } ∧
    exec (Instr.ldStore r) s = .next { s with mem := s.mem.write s.hl.toNat (s.reg r), pc := s.pc + 1#16 } ∧
    exec (.ldIndHL_n n) s = .next { s with mem := s.mem.write s.hl.toNat n, pc := s.pc + 2#16 }

/-- LD A,(BC), LD A,(DE), LD A,(nn) load A from the byte at the address; LD (BC),A, LD (DE),A, LD (nn),A store A
there; PC advances by 1, by 3 with nn; nothing else changes (R116 to R121; K1, log entry 5). -/
def Obligations.LoadsAndStoresOfAThroughBcDeAndAbsolute : Prop :=
  ∀ (nn : Word) (s : State),
    exec .ldA_IndBC s = .next { s with a := s.mem.read s.bc.toNat, pc := s.pc + 1#16 } ∧
    exec .ldA_IndDE s = .next { s with a := s.mem.read s.de.toNat, pc := s.pc + 1#16 } ∧
    exec .ldIndBC_A s = .next { s with mem := s.mem.write s.bc.toNat s.a, pc := s.pc + 1#16 } ∧
    exec .ldIndDE_A s = .next { s with mem := s.mem.write s.de.toNat s.a, pc := s.pc + 1#16 } ∧
    exec (.ldA_IndNN nn) s = .next { s with a := s.mem.read nn.toNat, pc := s.pc + 3#16 } ∧
    exec (.ldIndNN_A nn) s = .next { s with mem := s.mem.write nn.toNat s.a, pc := s.pc + 3#16 }

/-- LDH A,(n), LDH (n),A, LD A,(C) and LD (C),A access the byte at 0xFF00 + n or 0xFF00 + C and change nothing else;
the base 0xFF00 is decision D25 (log entry 7). -/
def Obligations.HighPageLoadsAndStores : Prop :=
  ∀ (n : Byte) (s : State),
    exec (.ldhA_IndN n) s = .next { s with a := s.mem.read (0xFF00 + n.toNat), pc := s.pc + 2#16 } ∧
    exec (.ldhIndN_A n) s = .next { s with mem := s.mem.write (0xFF00 + n.toNat) s.a, pc := s.pc + 2#16 } ∧
    exec .ldA_IndC s = .next { s with a := s.mem.read (0xFF00 + s.c.toNat), pc := s.pc + 1#16 } ∧
    exec .ldIndC_A s = .next { s with mem := s.mem.write (0xFF00 + s.c.toNat) s.a, pc := s.pc + 1#16 }

/-- LD (HL+),A, LD (HL-),A, LD A,(HL+) and LD A,(HL-) access the byte at the old HL and then leave HL one higher or
one lower mod 65536, with no flag changed (R126 to R129; post-increment is K3, log entry 7). -/
def Obligations.LoadsAndStoresThatStepHL : Prop :=
  ∀ s : State,
    exec .ldIndHLInc_A s = .next { (s.setHL (BitVec.ofNat 16 (s.hl.toNat + 1))) with
      mem := s.mem.write s.hl.toNat s.a, pc := s.pc + 1#16 } ∧
    exec .ldIndHLDec_A s = .next { (s.setHL (BitVec.ofNat 16 (s.hl.toNat + 65535))) with
      mem := s.mem.write s.hl.toNat s.a, pc := s.pc + 1#16 } ∧
    exec .ldA_IndHLInc s = .next { (s.setHL (BitVec.ofNat 16 (s.hl.toNat + 1))) with
      a := s.mem.read s.hl.toNat, pc := s.pc + 1#16 } ∧
    exec .ldA_IndHLDec s = .next { (s.setHL (BitVec.ofNat 16 (s.hl.toNat + 65535))) with
      a := s.mem.read s.hl.toNat, pc := s.pc + 1#16 }

/-- LD rr,nn writes the immediate to both halves of BC, DE or HL, or to SP; LD SP,HL copies HL; nothing else but PC
changes (R141, R143; K1, log entry 5). -/
def Obligations.LoadsOfPairsAndSp : Prop :=
  ∀ (nn : Word) (s : State),
    exec (.ldBC_nn nn) s = .next { s with b := hi8 nn, c := lo8 nn, pc := s.pc + 3#16 } ∧
    exec (.ldDE_nn nn) s = .next { s with d := hi8 nn, e := lo8 nn, pc := s.pc + 3#16 } ∧
    exec (.ldHL_nn nn) s = .next { s with h := hi8 nn, l := lo8 nn, pc := s.pc + 3#16 } ∧
    exec (.ldSP_nn nn) s = .next { s with sp := nn, pc := s.pc + 3#16 } ∧
    exec .ldSP_HL s = .next { s with sp := s.hl, pc := s.pc + 1#16 }

/-- LD (nn),SP stores the low byte of SP at nn and the high byte at nn + 1, SP unchanged; at nn = 0xFFFF it raises
BoundsViolation(0x10000) (R142; the byte order is decision D21, the unwrapped address D2, log entries 7 and 18). -/
def Obligations.StoreOfSpIsLowByteFirst : Prop :=
  ∀ (nn : Word) (s : State),
    (nn.toNat < 0xFFFF → exec (.ldIndNN_SP nn) s = .next { s with
      mem := (s.mem.write nn.toNat (lo8 s.sp)).write (nn.toNat + 1) (hi8 s.sp), pc := s.pc + 3#16 }) ∧
    (nn.toNat = 0xFFFF → exec (.ldIndNN_SP nn) s = .fault (.boundsViolation 0x10000))

/-- LD HL,SP+e and ADD SP,e compute SP plus the signed displacement mod 65536 into HL or SP; fZ and fS become false,
fH and fC are the carries out of bits 3 and 7 of the low-byte sum with e unsigned, fP the evenness of the high byte
(R144, R214; the flags are decision D15, log entry 9). -/
def Obligations.SpDisplacementSums : Prop :=
  ∀ (e : Byte) (s : State),
    let res := BitVec.ofInt 16 (s.sp.toNat + e.toInt)
    let flags : Flags := {
      fZ := false, fC := decide (s.sp.toNat % 256 + e.toNat > 0xFF), fS := false,
      fH := decide (s.sp.toNat % 16 + e.toNat % 16 > 0xF), fP := decide (res.toNat / 256 % 2 = 0) }
    exec (.ldHL_SPe e) s = .next { (s.setHL res) with flags := flags, pc := s.pc + 2#16 } ∧
    exec (.addSP_e e) s = .next { s with sp := res, flags := flags, pc := s.pc + 2#16 }

/-- PUSH BC, DE, HL store the high register at SP - 1 and the low one at SP - 2 and lower SP by 2, or raise
BoundsViolation(-1) where SP < 2; POP loads the low register from SP and the high one from SP + 1 and raises SP by 2
mod 65536, or raises BoundsViolation(0x10000) at SP = 0xFFFF; nothing else but PC changes (R145, R147; the byte order
is decision D4, log entry 7). -/
def Obligations.PushAndPopOfPairs : Prop :=
  ∀ s : State,
    (2 ≤ s.sp.toNat →
      exec .pushBC s = .next { s with mem := s.pushedMem s.b s.c, sp := s.sp - 2#16, pc := s.pc + 1#16 } ∧
      exec .pushDE s = .next { s with mem := s.pushedMem s.d s.e, sp := s.sp - 2#16, pc := s.pc + 1#16 } ∧
      exec .pushHL s = .next { s with mem := s.pushedMem s.h s.l, sp := s.sp - 2#16, pc := s.pc + 1#16 }) ∧
    (s.sp.toNat < 2 → exec .pushBC s = .fault (.boundsViolation (-1)) ∧
      exec .pushDE s = .fault (.boundsViolation (-1)) ∧ exec .pushHL s = .fault (.boundsViolation (-1))) ∧
    (s.sp.toNat < 0xFFFF →
      exec .popBC s = .next { s with
        b := s.mem.read (s.sp.toNat + 1), c := s.mem.read s.sp.toNat, sp := s.sp + 2#16, pc := s.pc + 1#16 } ∧
      exec .popDE s = .next { s with
        d := s.mem.read (s.sp.toNat + 1), e := s.mem.read s.sp.toNat, sp := s.sp + 2#16, pc := s.pc + 1#16 } ∧
      exec .popHL s = .next { s with
        h := s.mem.read (s.sp.toNat + 1), l := s.mem.read s.sp.toNat, sp := s.sp + 2#16, pc := s.pc + 1#16 }) ∧
    (s.sp.toNat = 0xFFFF → exec .popBC s = .fault (.boundsViolation 0x10000) ∧
      exec .popDE s = .fault (.boundsViolation 0x10000) ∧ exec .popHL s = .fault (.boundsViolation 0x10000))

/-- PUSH AF stores A at SP - 1 and the packed flags at SP - 2; POP AF loads A from SP + 1 and unpacks the byte at SP;
SP moves by 2; both fault as the other pushes and pops do. The packing is the spec's default: Z, H, C, S, P in bits 7,
5, 4, 3, 2, the bits 6, 1, 0 written 0 and ignored (R22, R146, R148; decision D5, log entry 1; byte order D4). -/
def Obligations.PushAndPopOfAf : Prop :=
  ∀ s : State,
    (2 ≤ s.sp.toNat → exec .pushAF s = .next { s with
      mem := s.pushedMem s.a (BitVec.ofNat 8 (s.flags.fZ.toNat * 128 + s.flags.fH.toNat * 32 + s.flags.fC.toNat * 16 +
        s.flags.fS.toNat * 8 + s.flags.fP.toNat * 4)),
      sp := s.sp - 2#16, pc := s.pc + 1#16 }) ∧
    (s.sp.toNat < 2 → exec .pushAF s = .fault (.boundsViolation (-1))) ∧
    (s.sp.toNat < 0xFFFF → exec .popAF s = .next { s with
      a := s.mem.read (s.sp.toNat + 1),
      flags := {
        fZ := decide ((s.mem.read s.sp.toNat).toNat / 128 % 2 = 1), fC := decide ((s.mem.read s.sp.toNat).toNat / 16 % 2 = 1),
        fS := decide ((s.mem.read s.sp.toNat).toNat / 8 % 2 = 1), fH := decide ((s.mem.read s.sp.toNat).toNat / 32 % 2 = 1),
        fP := decide ((s.mem.read s.sp.toNat).toNat / 4 % 2 = 1) },
      sp := s.sp + 2#16, pc := s.pc + 1#16 }) ∧
    (s.sp.toNat = 0xFFFF → exec .popAF s = .fault (.boundsViolation 0x10000))

/-- PUSH then POP moves the pair's word to the popped pair and restores SP; PUSH AF then POP AF restores A and all
five flags under every lawful packing, the default one among them; CALL, a taken CALL cc and RST followed by RET or
RETI come back to the address after the call with SP restored (R147, R148, R266; decisions D4, D5, D7, log entries 1
and 7). -/
def Obligations.StackRoundTripsRestore : Prop :=
  ∀ s : State, 2 ≤ s.sp.toNat →
    (∀ p q : Fin 3, ∃ t u, exec (Instr.push (stackPairOf p.castSucc)) s = .next t ∧
      exec (Instr.pop (stackPairOf q.castSucc)) t = .next u ∧
      u.pair (pairOf q.castSucc) = s.pair (pairOf p.castSucc) ∧ u.sp = s.sp) ∧
    (∀ packing : FlagPacking, packing.Lawful → ∃ t u, pushAfWith packing s = .next t ∧ popAfWith packing t = .next u ∧
      u.a = s.a ∧ u.flags = s.flags ∧ u.sp = s.sp) ∧
    flagPacking.Lawful ∧ (∀ x : State, exec .pushAF x = pushAfWith flagPacking x ∧ exec .popAF x = popAfWith flagPacking x) ∧
    (∀ nn : Word, ∃ t u, exec (.call_nn nn) s = .next t ∧ t.pc = nn ∧ exec .ret t = .next u ∧ u.pc = s.pc + 3#16 ∧
      u.sp = s.sp) ∧
    (∀ (cc : Cond) (nn : Word), takenWhen cc s.flags = true → ∃ t u, exec (Instr.callCond cc nn) s = .next t ∧ t.pc = nn ∧
      exec .reti t = .next u ∧ u.pc = s.pc + 3#16 ∧ u.sp = s.sp) ∧
    (∀ n : Fin 8, ∃ t u, exec (Instr.rst n) s = .next t ∧ t.pc.toNat = 8 * n.val ∧ exec .ret t = .next u ∧
      u.pc = s.pc + 1#16 ∧ u.sp = s.sp)

/-- ADD A,r and ADC A,r, bytes 0x80 + z and 0x88 + z: A becomes the sum (with the old carry for ADC) mod 256, fC its
carry out of bit 7, fH out of bit 3, fZ, fS, fP of the result; PC advances by 1 and nothing else changes, A itself as
operand included. Formalises R161, R164 (the opcode numbers are K1, log entry 5). -/
def Obligations.AddAndAdcOfARegister : Prop :=
  ∀ (r : Reg8) (s : State),
    encode (Instr.alu .add (.reg r)) = [BitVec.ofNat 8 (0x80 + regCode r)] ∧
    encode (Instr.alu .adc (.reg r)) = [BitVec.ofNat 8 (0x88 + regCode r)] ∧
    exec (Instr.alu .add (.reg r)) s = .next { s with
      a := BitVec.ofNat 8 (s.a.toNat + (s.reg r).toNat),
      flags := flagsOf (BitVec.ofNat 8 (s.a.toNat + (s.reg r).toNat)) (decide (s.a.toNat + (s.reg r).toNat > 0xFF))
        (decide (s.a.toNat % 16 + (s.reg r).toNat % 16 > 0xF)),
      pc := s.pc + 1#16 } ∧
    exec (Instr.alu .adc (.reg r)) s = .next { s with
      a := BitVec.ofNat 8 (s.a.toNat + ((s.reg r).toNat + s.flags.fC.toNat)),
      flags := flagsOf (BitVec.ofNat 8 (s.a.toNat + ((s.reg r).toNat + s.flags.fC.toNat))) (decide (s.a.toNat + ((s.reg r).toNat + s.flags.fC.toNat) > 0xFF))
        (decide (s.a.toNat % 16 + ((s.reg r).toNat % 16 + s.flags.fC.toNat) > 0xF)),
      pc := s.pc + 1#16 }

/-- ADD and ADC with the byte at HL and with an immediate: the sum and the flags of the register form (decision D28,
log entry 8); memory is only read; PC advances by 1, by 2 with the immediate. -/
def Obligations.AddAndAdcOfMemoryAndImmediate : Prop :=
  ∀ (n : Byte) (s : State),
    exec .addA_IndHL s = .next { s with
      a := BitVec.ofNat 8 (s.a.toNat + (s.mem.read s.hl.toNat).toNat),
      flags := flagsOf (BitVec.ofNat 8 (s.a.toNat + (s.mem.read s.hl.toNat).toNat)) (decide (s.a.toNat + (s.mem.read s.hl.toNat).toNat > 0xFF))
        (decide (s.a.toNat % 16 + (s.mem.read s.hl.toNat).toNat % 16 > 0xF)),
      pc := s.pc + 1#16 } ∧
    exec .adcA_IndHL s = .next { s with
      a := BitVec.ofNat 8 (s.a.toNat + ((s.mem.read s.hl.toNat).toNat + s.flags.fC.toNat)),
      flags := flagsOf (BitVec.ofNat 8 (s.a.toNat + ((s.mem.read s.hl.toNat).toNat + s.flags.fC.toNat))) (decide (s.a.toNat + ((s.mem.read s.hl.toNat).toNat + s.flags.fC.toNat) > 0xFF))
        (decide (s.a.toNat % 16 + ((s.mem.read s.hl.toNat).toNat % 16 + s.flags.fC.toNat) > 0xF)),
      pc := s.pc + 1#16 } ∧
    exec (.addA_n n) s = .next { s with
      a := BitVec.ofNat 8 (s.a.toNat + n.toNat),
      flags := flagsOf (BitVec.ofNat 8 (s.a.toNat + n.toNat)) (decide (s.a.toNat + n.toNat > 0xFF))
        (decide (s.a.toNat % 16 + n.toNat % 16 > 0xF)),
      pc := s.pc + 2#16 } ∧
    exec (.adcA_n n) s = .next { s with
      a := BitVec.ofNat 8 (s.a.toNat + (n.toNat + s.flags.fC.toNat)),
      flags := flagsOf (BitVec.ofNat 8 (s.a.toNat + (n.toNat + s.flags.fC.toNat))) (decide (s.a.toNat + (n.toNat + s.flags.fC.toNat) > 0xFF))
        (decide (s.a.toNat % 16 + (n.toNat % 16 + s.flags.fC.toNat) > 0xF)),
      pc := s.pc + 2#16 }

/-- AND r, XOR r, OR r, bytes 0xA0, 0xA8, 0xB0 + z: A becomes the bitwise result; fC false; fH true for AND, false for
XOR and OR; fZ, fS, fP of the result; PC advances by 1 and nothing else changes. XOR A gives A = 0 with fZ and fP true
and the other flags false, whatever A was. Formalises R173, R176, R179 (the opcode numbers are K1, log entry 5). -/
def Obligations.LogicalOperationsOnARegister : Prop :=
  ∀ (r : Reg8) (s : State),
    encode (Instr.alu .and (.reg r)) = [BitVec.ofNat 8 (0xA0 + regCode r)] ∧
    encode (Instr.alu .xor (.reg r)) = [BitVec.ofNat 8 (0xA8 + regCode r)] ∧
    encode (Instr.alu .or (.reg r)) = [BitVec.ofNat 8 (0xB0 + regCode r)] ∧
    exec (Instr.alu .and (.reg r)) s = .next { s with
      a := s.a &&& s.reg r, flags := flagsOf (s.a &&& s.reg r) false true, pc := s.pc + 1#16 } ∧
    exec (Instr.alu .xor (.reg r)) s = .next { s with
      a := s.a ^^^ s.reg r, flags := flagsOf (s.a ^^^ s.reg r) false false, pc := s.pc + 1#16 } ∧
    exec (Instr.alu .or (.reg r)) s = .next { s with
      a := s.a ||| s.reg r, flags := flagsOf (s.a ||| s.reg r) false false, pc := s.pc + 1#16 } ∧
    exec .xorA s = .next { s with
      a := 0#8, flags := { fZ := true, fC := false, fS := false, fH := false, fP := true }, pc := s.pc + 1#16 }

/-- AND, XOR and OR with the byte at HL and with an immediate: the result and the flags of the register form (decision
D28, log entry 8); memory is only read; PC advances by 1, by 2 with the immediate. -/
def Obligations.LogicalOperationsOnMemoryAndImmediate : Prop :=
  ∀ (n : Byte) (s : State),
    exec (Instr.alu .and .indHL) s = .next { s with
      a := s.a &&& s.mem.read s.hl.toNat, flags := flagsOf (s.a &&& s.mem.read s.hl.toNat) false true, pc := s.pc + 1#16 } ∧
    exec (Instr.alu .xor .indHL) s = .next { s with
      a := s.a ^^^ s.mem.read s.hl.toNat, flags := flagsOf (s.a ^^^ s.mem.read s.hl.toNat) false false, pc := s.pc + 1#16 } ∧
    exec (Instr.alu .or .indHL) s = .next { s with
      a := s.a ||| s.mem.read s.hl.toNat, flags := flagsOf (s.a ||| s.mem.read s.hl.toNat) false false, pc := s.pc + 1#16 } ∧
    exec (Instr.alu .and (.imm n)) s = .next { s with
      a := s.a &&& n, flags := flagsOf (s.a &&& n) false true, pc := s.pc + 2#16 } ∧
    exec (Instr.alu .xor (.imm n)) s = .next { s with
      a := s.a ^^^ n, flags := flagsOf (s.a ^^^ n) false false, pc := s.pc + 2#16 } ∧
    exec (Instr.alu .or (.imm n)) s = .next { s with
      a := s.a ||| n, flags := flagsOf (s.a ||| n) false false, pc := s.pc + 2#16 }

/-- SUB, SBC A and CP with a register, the byte at HL and an immediate, written for the operand byte v: the difference
(with the old carry as borrow for SBC) mod 256 goes to A, CP leaves A; fC says A < v plus borrow, fH the same of the
low nibbles, both on unbounded integers; fZ, fS, fP of the difference (decision D12), the memory and immediate forms
as the register form (D28); log entry 8. PC advances by 1, by 2 with the immediate; memory is only read. -/
def Obligations.SubtractionsAndComparisons : Prop :=
  ∀ (src : Source8) (v : Byte) (s : State),
    (match src with
      | .reg r => v = s.reg r
      | .indHL => v = s.mem.read s.hl.toNat
      | .imm n => v = n) →
    let len : Word := match src with
      | .reg _ => 1#16
      | .indHL => 1#16
      | .imm _ => 2#16
    let diff : Nat → Byte := fun borrow => BitVec.ofInt 8 ((s.a.toNat : Int) - v.toNat - borrow)
    let flags : Nat → Flags := fun borrow =>
      flagsOf (diff borrow) (decide (s.a.toNat < v.toNat + borrow)) (decide (s.a.toNat % 16 < v.toNat % 16 + borrow))
    exec (Instr.alu .sub src) s = .next { s with a := diff 0, flags := flags 0, pc := s.pc + len } ∧
    exec (Instr.alu .sbc src) s = .next { s with
      a := diff s.flags.fC.toNat, flags := flags s.flags.fC.toNat, pc := s.pc + len } ∧
    exec (Instr.alu .cp src) s = .next { s with flags := flags 0, pc := s.pc + len }

/-- After CP fZ means A = v and fC means A < v unsigned, for every operand form, and A keeps its value (R182; Zero of
CP is decision D12, log entry 8). -/
def Obligations.CompareOrdersUnsignedBytes : Prop :=
  ∀ (src : Source8) (s : State), ∃ t, exec (Instr.alu .cp src) s = .next t ∧ t.a = s.a ∧
    (t.flags.fZ = true ↔ s.a = s.readSource src) ∧ (t.flags.fC = true ↔ s.a.toNat < (s.readSource src).toNat)

/-- INC r and DEC r, bytes 0x04 + 8y and 0x05 + 8y: the register takes the value plus or minus one mod 256; fZ, fS, fP
of the result; fH when the low nibble wrapped to 0 or to 0xF; fC unchanged; PC advances by 1 and nothing else changes.
INC followed by DEC restores the register. Formalises R185, R187 (the opcode numbers are K1, log entry 5). -/
def Obligations.IncrementAndDecrementOfARegister : Prop :=
  ∀ (r : Reg8) (s : State),
    encode (Instr.inc (.reg r)) = [BitVec.ofNat 8 (0x04 + 8 * regCode r)] ∧
    encode (Instr.dec (.reg r)) = [BitVec.ofNat 8 (0x05 + 8 * regCode r)] ∧
    exec (Instr.inc (.reg r)) s = .next { s.setReg r (BitVec.ofNat 8 ((s.reg r).toNat + 1)) with
      flags := flagsOf (BitVec.ofNat 8 ((s.reg r).toNat + 1)) s.flags.fC (decide (((s.reg r).toNat + 1) % 16 = 0)),
      pc := s.pc + 1#16 } ∧
    exec (Instr.dec (.reg r)) s = .next { s.setReg r (BitVec.ofNat 8 ((s.reg r).toNat + 255)) with
      flags := flagsOf (BitVec.ofNat 8 ((s.reg r).toNat + 255)) s.flags.fC (decide (((s.reg r).toNat + 255) % 16 = 15)),
      pc := s.pc + 1#16 } ∧
    ∃ t u, exec (Instr.inc (.reg r)) s = .next t ∧ exec (Instr.dec (.reg r)) t = .next u ∧ u.reg r = s.reg r

/-- INC (HL) and DEC (HL) read the byte at HL, store it plus or minus one mod 256 at HL and nowhere else, and set the
flags as the register forms do (R186, R188; decision D12, log entry 8); HL is unchanged. -/
def Obligations.IncrementAndDecrementOfMemory : Prop :=
  ∀ s : State,
    exec .incIndHL s = .next { s with
      mem := s.mem.write s.hl.toNat (BitVec.ofNat 8 ((s.mem.read s.hl.toNat).toNat + 1)),
      flags := flagsOf (BitVec.ofNat 8 ((s.mem.read s.hl.toNat).toNat + 1)) s.flags.fC
        (decide (((s.mem.read s.hl.toNat).toNat + 1) % 16 = 0)),
      pc := s.pc + 1#16 } ∧
    exec .decIndHL s = .next { s with
      mem := s.mem.write s.hl.toNat (BitVec.ofNat 8 ((s.mem.read s.hl.toNat).toNat + 255)),
      flags := flagsOf (BitVec.ofNat 8 ((s.mem.read s.hl.toNat).toNat + 255)) s.flags.fC
        (decide (((s.mem.read s.hl.toNat).toNat + 255) % 16 = 15)),
      pc := s.pc + 1#16 }

/-- DAA adds 0x06 when fH or the low nibble is above 9 and 0x60 when fC or A is above 0x99, both tests on the old A;
fC records the second correction, fH becomes false, fZ, fS, fP are of the corrected A; nothing else but PC changes
(R189; the thresholds are decision D16, log entry 10). -/
def Obligations.DecimalAdjustResult : Prop :=
  ∀ s : State,
    let low := s.flags.fH = true ∨ s.a.toNat % 16 > 9
    let high := s.flags.fC = true ∨ s.a.toNat > 0x99
    let res := BitVec.ofNat 8 (s.a.toNat + (if low then 6 else 0) + (if high then 96 else 0))
    exec .daa s = .next { s with a := res, flags := flagsOf res (decide high) false, pc := s.pc + 1#16 }

/-- Adding two packed-BCD numbers below 100 with ADD or, with the carry, ADC and then adjusting with DAA gives the
packed-BCD sum mod 100, with Carry set exactly when the sum is 100 or more (R189, the source's DAA example; thresholds
by decision D16, log entry 10). -/
def Obligations.DecimalAdditionIsCorrected : Prop :=
  ∀ (x y : Nat) (s : State), x < 100 → y < 100 → s.a = bcd x →
    (∃ t u, exec (.addA_n (bcd y)) s = .next t ∧ exec .daa t = .next u ∧
      u.a = bcd ((x + y) % 100) ∧ u.flags.fC = decide (x + y ≥ 100)) ∧
    (∃ t u, exec (.adcA_n (bcd y)) s = .next t ∧ exec .daa t = .next u ∧
      u.a = bcd ((x + y + s.flags.fC.toNat) % 100) ∧ u.flags.fC = decide (x + y + s.flags.fC.toNat ≥ 100))

/-- CPL complements A and sets fH; SCF sets fC and clears fH; CCF inverts fC and clears fH; no other flag, register or
byte changes; CPL twice restores A (R190 to R192; decision D14, log entry 10). -/
def Obligations.ComplementAndCarryInstructions : Prop :=
  ∀ s : State,
    exec .cpl s = .next { s with a := BitVec.ofNat 8 (255 - s.a.toNat), flags := { s.flags with fH := true }, pc := s.pc + 1#16 } ∧
    exec .scf s = .next { s with flags := { s.flags with fC := true, fH := false }, pc := s.pc + 1#16 } ∧
    exec .ccf s = .next { s with flags := { s.flags with fC := !s.flags.fC, fH := false }, pc := s.pc + 1#16 } ∧
    ∃ t u, exec .cpl s = .next t ∧ exec .cpl t = .next u ∧ u.a = s.a

/-- ADD HL,rr, bytes 0x09 + 16p: HL becomes HL plus BC, DE, HL or SP mod 65536; fS and fZ become false, fH is the
carry out of bit 11, fC out of bit 15, fP the evenness of the new H; PC advances by 1 and nothing else changes, the
source operand included. Formalises R211 (the opcode numbers are K1, log entry 5). -/
def Obligations.AddToHL : Prop :=
  ∀ (p : Fin 4) (s : State),
    let sum := s.hl.toNat + (s.pair (pairOf p)).toNat
    encode (Instr.addHL (pairOf p)) = [BitVec.ofNat 8 (0x09 + 16 * p.val)] ∧
    exec (Instr.addHL (pairOf p)) s = .next { s with
      h := BitVec.ofNat 8 (sum / 256), l := BitVec.ofNat 8 sum,
      flags := {
        fZ := false, fC := decide (sum > 0xFFFF), fS := false,
        fH := decide (s.hl.toNat % 4096 + (s.pair (pairOf p)).toNat % 4096 > 0xFFF), fP := decide (sum / 256 % 2 = 0) },
      pc := s.pc + 1#16 }

/-- INC rr and DEC rr change BC, DE, HL or SP by one mod 65536 and no flag, nothing else but PC (R212, R213; that no
flag is written is decision D13, log entry 9). -/
def Obligations.IncrementAndDecrementOfPairs : Prop :=
  ∀ (p : Pair) (s : State),
    exec (Instr.incPair p) s = .next { s.setPair p (BitVec.ofNat 16 ((s.pair p).toNat + 1)) with pc := s.pc + 1#16 } ∧
    exec (Instr.decPair p) s = .next { s.setPair p (BitVec.ofNat 16 ((s.pair p).toNat + 65535)) with pc := s.pc + 1#16 }

/-- RLCA, RRCA, RLA and RRA rotate A by one bit, RLA and RRA through the carry; fC takes the bit that left, the other
four flags become false whatever the result; nothing else but PC changes (R221 to R224; the bit movements are K2, log
entry 11). -/
def Obligations.AccumulatorRotates : Prop :=
  ∀ s : State,
    let after : RotOp → Result := fun op => .next { s with
      a := BitVec.ofNat 8 (rotatedValue op s.a.toNat s.flags.fC.toNat),
      flags := { fZ := false, fC := rotatedOut op s.a.toNat, fS := false, fH := false, fP := false },
      pc := s.pc + 1#16 }
    exec .rlca s = after .rlc ∧ exec .rrca s = after .rrc ∧ exec .rla s = after .rl ∧ exec .rra s = after .rr

/-- RLC, RRC, RL, RR, SLA, SRA, SWAP and SRL of each register and of the byte at HL: the operand takes the rotated or
shifted value, fC the bit that left (false for SWAP), fH becomes false, fZ, fS, fP are of the result; PC advances by
2; nothing else changes, memory only at HL in the (HL) form (R225 to R240; the bit movements are K2, log entry 11). -/
def Obligations.PrefixedRotatesAndShifts : Prop :=
  ∀ (op : RotOp) (s : State),
    (∀ r : Reg8,
      let res := BitVec.ofNat 8 (rotatedValue op (s.reg r).toNat s.flags.fC.toNat)
      exec (Instr.rot op (.reg r)) s = .next { s.setReg r res with
        flags := flagsOf res (rotatedOut op (s.reg r).toNat) false, pc := s.pc + 2#16 }) ∧
    (let v := (s.mem.read s.hl.toNat).toNat
     let res := BitVec.ofNat 8 (rotatedValue op v s.flags.fC.toNat)
     exec (Instr.rot op .indHL) s = .next { s with
       mem := s.mem.write s.hl.toNat res, flags := flagsOf res (rotatedOut op v) false, pc := s.pc + 2#16 })

/-- BIT b of each register and of the byte at HL: fZ says the bit is 0, fS is the bit for b = 7 and false otherwise,
fP is false only for b = 0 with the bit set, fH becomes true, fC stays; PC advances by 2; no register and no byte of
memory changes (R251, R252; Sign and Parity of the masked value are decision D18, log entry 11). -/
def Obligations.BitTests : Prop :=
  ∀ (b : Fin 8) (s : State),
    let after : Byte → Result := fun v => .next { s with
      flags := {
        fZ := decide (v.toNat / 2 ^ b.val % 2 = 0), fC := s.flags.fC,
        fS := decide (b.val = 7 ∧ v.toNat / 128 = 1), fH := true, fP := !decide (b.val = 0 ∧ v.toNat % 2 = 1) },
      pc := s.pc + 2#16 }
    (∀ r : Reg8, exec (Instr.bit b (.reg r)) s = after (s.reg r)) ∧
    exec (Instr.bit b .indHL) s = after (s.mem.read s.hl.toNat)

/-- RES b clears and SET b sets bit b of each register and of the byte at HL, leaving its other bits and all five
flags as they were; PC advances by 2; nothing else changes, memory only at HL in the (HL) form (R253 to R256; that no
flag is written is decision D19, log entry 11). -/
def Obligations.BitResetAndSet : Prop :=
  ∀ (b : Fin 8) (s : State),
    let cleared : Byte → Byte := fun v => BitVec.ofNat 8 (v.toNat - v.toNat / 2 ^ b.val % 2 * 2 ^ b.val)
    let raised : Byte → Byte := fun v => BitVec.ofNat 8 (v.toNat + (1 - v.toNat / 2 ^ b.val % 2) * 2 ^ b.val)
    (∀ r : Reg8,
      exec (Instr.res b (.reg r)) s = .next { s.setReg r (cleared (s.reg r)) with pc := s.pc + 2#16 } ∧
      exec (Instr.set b (.reg r)) s = .next { s.setReg r (raised (s.reg r)) with pc := s.pc + 2#16 }) ∧
    exec (Instr.res b .indHL) s = .next { s with
      mem := s.mem.write s.hl.toNat (cleared (s.mem.read s.hl.toNat)), pc := s.pc + 2#16 } ∧
    exec (Instr.set b .indHL) s = .next { s with
      mem := s.mem.write s.hl.toNat (raised (s.mem.read s.hl.toNat)), pc := s.pc + 2#16 }

/-- JP nn (byte 0xC3) sets PC to the immediate; JP cc,nn (bytes 0xC2 + 8cc) does so when the condition holds and
advances PC by 3 otherwise; nothing else changes; at PC = 0xFFFE or 0xFFFF both raise BoundsViolation(0x10000), taken
or not (R261, R262; the untaken fetch is decision D2, log entry 18, the opcode and condition numbers K1 and K8, log
entry 5). -/
def Obligations.AbsoluteJumps : Prop :=
  ∀ (nn : Word) (s : State),
    encode (.jp_nn nn) = [0xC3#8, lo8 nn, hi8 nn] ∧
    exec (.jp_nn nn) s = .next { s with pc := nn } ∧
    (s.opcode = 0xC3 → s.pc.toNat ≥ 0xFFFE → step s = .fault (.boundsViolation 0x10000)) ∧
    encode (.jpNZ_nn nn) = [0xC2#8, lo8 nn, hi8 nn] ∧ encode (.jpZ_nn nn) = [0xCA#8, lo8 nn, hi8 nn] ∧
    encode (.jpNC_nn nn) = [0xD2#8, lo8 nn, hi8 nn] ∧ encode (.jpC_nn nn) = [0xDA#8, lo8 nn, hi8 nn] ∧
    (∀ cc : Cond, exec (Instr.jpCond cc nn) s = .next { s with
      pc := if takenWhen cc s.flags then nn else s.pc + 3#16 }) ∧
    (s.opcode = 0xC2 ∨ s.opcode = 0xCA ∨ s.opcode = 0xD2 ∨ s.opcode = 0xDA → s.pc.toNat ≥ 0xFFFE →
      step s = .fault (.boundsViolation 0x10000))

/-- JP (HL) sets PC to HL without reading memory; JR e sets PC to PC + 2 plus the signed displacement mod 65536; JR
cc,e does so when the condition holds and advances PC by 2 otherwise; nothing else changes (R263 to R265; K10, and the
wrapping target is decision D6, log entry 12). -/
def Obligations.JumpThroughHLAndRelativeJumps : Prop :=
  ∀ (e : Byte) (s : State),
    exec .jpIndHL s = .next { s with pc := s.hl } ∧
    exec (.jr_e e) s = .next { s with pc := BitVec.ofInt 16 (s.pc.toNat + 2 + e.toInt) } ∧
    (∀ cc : Cond, exec (Instr.jrCond cc e) s = .next { s with
      pc := if takenWhen cc s.flags then BitVec.ofInt 16 (s.pc.toNat + 2 + e.toInt) else s.pc + 2#16 })

/-- CALL nn pushes PC + 3 and goes to nn; CALL cc,nn does so when the condition holds and otherwise advances PC by 3
without touching the stack; RST t pushes PC + 1 and goes to 8t; nothing else changes. With SP < 2 a call that would
push raises BoundsViolation(-1) (R266, R267, R271; byte order by decision D4, the address RST pushes by D7, log entry
7). -/
def Obligations.CallsAndRestarts : Prop :=
  ∀ (nn : Word) (cc : Cond) (n : Fin 8) (s : State),
    let called : Word → Word → Result := fun ret target => .next { s with
      mem := s.pushedMem (hi8 ret) (lo8 ret), sp := s.sp - 2#16, pc := target }
    (2 ≤ s.sp.toNat →
      exec (.call_nn nn) s = called (s.pc + 3#16) nn ∧
      exec (Instr.rst n) s = called (s.pc + 1#16) (BitVec.ofNat 16 (8 * n.val)) ∧
      (takenWhen cc s.flags = true → exec (Instr.callCond cc nn) s = called (s.pc + 3#16) nn)) ∧
    (takenWhen cc s.flags = false → exec (Instr.callCond cc nn) s = .next { s with pc := s.pc + 3#16 }) ∧
    (s.sp.toNat < 2 →
      exec (.call_nn nn) s = .fault (.boundsViolation (-1)) ∧ exec (Instr.rst n) s = .fault (.boundsViolation (-1)) ∧
      (takenWhen cc s.flags = true → exec (Instr.callCond cc nn) s = .fault (.boundsViolation (-1))))

/-- RET and RETI set PC to the word whose low byte is at SP and high byte at SP + 1 and raise SP by 2 mod 65536; RET
cc does so when the condition holds and otherwise advances PC by 1 without reading the stack; nothing else changes. At
SP = 0xFFFF a return that would pop raises BoundsViolation(0x10000) (R268 to R270; byte order by decision D4, RETI by
D17, log entries 7 and 12). -/
def Obligations.Returns : Prop :=
  ∀ (cc : Cond) (s : State),
    let returned : Result := .next { s with
      sp := s.sp + 2#16, pc := wordOf (s.mem.read (s.sp.toNat + 1)) (s.mem.read s.sp.toNat) }
    (s.sp.toNat < 0xFFFF →
      exec .ret s = returned ∧ exec .reti s = returned ∧
      (takenWhen cc s.flags = true → exec (Instr.retCond cc) s = returned)) ∧
    (takenWhen cc s.flags = false → exec (Instr.retCond cc) s = .next { s with pc := s.pc + 1#16 }) ∧
    (s.sp.toNat = 0xFFFF →
      exec .ret s = .fault (.boundsViolation 0x10000) ∧ exec .reti s = .fault (.boundsViolation 0x10000) ∧
      (takenWhen cc s.flags = true → exec (Instr.retCond cc) s = .fault (.boundsViolation 0x10000)))

/-- NOP, DI, EI and the eleven undefined opcodes only advance PC by 1; STOP only advances PC by 2, its padding byte
neither read nor checked, so that at PC = 0xFFFF it does not fault; HALT sets HALTED and advances PC by 1 (R281 to
R286; STOP is decision D9, DI and EI D11, the list of eleven D8, HALT D10; log entries 12 and 13). -/
def Obligations.InstructionsThatOnlyAdvancePc : Prop :=
  ∀ s : State,
    (∀ i : Instr, i ∈ ([.nop, .di, .ei, .undefD3, .undefDB, .undefDD, .undefE3, .undefE4,
        .undefEB, .undefEC, .undefED, .undefF4, .undefFC, .undefFD] : List Instr) →
      exec i s = .next { s with pc := s.pc + 1#16 }) ∧
    exec .stop s = .next { s with pc := s.pc + 2#16 } ∧
    (s.opcode = 0x10 → step s = exec .stop s) ∧
    exec .halt s = .next { s with halted := true, pc := s.pc + 1#16 }

/-- LoadMemory of bytes that lie inside the 65,536 addresses puts each byte at its address and changes no other byte,
register, flag or latch, keeping the canonical form; otherwise the call is refused. A launch gives the zero state with
only memory loaded (R64, R321, R323; the refusal is decision D27, unloaded bytes 0x00 are D20, log entries 2 and 16).
-/
def Obligations.LoadMemoryCopiesOrRefuses : Prop :=
  (∀ (s : State) (bytes : List Byte) (off : Int), 0 ≤ off → off + bytes.length ≤ 65536 →
    ∃ t, s.loadMemory bytes off = .next t ∧ t = { s with mem := t.mem } ∧ (s.mem.wf → t.mem.wf) ∧
      (∀ k (h : k < bytes.length), t.mem.read (off.toNat + k) = bytes[k]) ∧
      (∀ addr, addr < off.toNat ∨ off.toNat + bytes.length ≤ addr → t.mem.read addr = s.mem.read addr)) ∧
  (∀ (s : State) (bytes : List Byte) (off : Int), off < 0 ∨ off + bytes.length > 65536 →
    ∃ r, s.loadMemory bytes off = .refused r) ∧
  (∀ (loads : List Load) (s : State), launch loads = .next s → s = { State.reset with mem := s.mem } ∧ s.mem.wf)

/-- A run from a state whose latch is clear ends halted exactly at its first HALT: some number j of steps below the
budget leads from the start to a state u whose opcode is HALT, the latch is clear in every state up to and including
u, and the step from u gives the final state, with the latch set and PC one past u; and wherever such a u is reached,
the run ends halted there. A larger step budget gives the same final state, and likewise for a fault (R324, R328;
decision D10, log entry 16). -/
def Obligations.RunsEndAtTheFirstHalt : Prop :=
  ∀ (k : Nat) (s : State),
    (∀ t, s.halted = false → runToHalt k s = .halted t →
      ∃ j u, j < k ∧ stateAfter j s = some u ∧
        (∀ i, i ≤ j → ∃ v, stateAfter i s = some v ∧ v.halted = false) ∧
        u.opcode = 0x76 ∧ step u = .next t ∧ t.halted = true ∧ t.pc = u.pc + 1#16) ∧
    (∀ j u, j < k → stateAfter j s = some u →
      (∀ i, i ≤ j → ∃ v, stateAfter i s = some v ∧ v.halted = false) → u.opcode = 0x76 →
      ∃ t, step u = .next t ∧ runToHalt k s = .halted t) ∧
    (∀ (n : Nat) (t : State), runToHalt k s = .halted t → runToHalt (k + n) s = .halted t) ∧
    (∀ (n : Nat) (f : Fault), runToHalt k s = .faulted f → runToHalt (k + n) s = .faulted f)

end
end

