-- ==== Sys2Proof/Laws/Driver.lean ====
section
/-! SUPPORT. Runs, one step at a time: what a run and its sequence of states do after a step that completes, sets the
latch or faults. Proofs about runs cite these and never unfold `runToHalt` or `stateAfter`. -/

namespace Sys2Proof.Machine

theorem isHalted_eq (s : State) : isHalted s = s.halted := rfl

@[simp] theorem runToHalt_zero (s : State) : runToHalt 0 s = .unfinished s := rfl

theorem runToHalt_succ_of_next {s t : State} (h : step s = .next t) (k : Nat) :
    runToHalt (k + 1) s = if t.halted then .halted t else runToHalt k t := by
  simp only [runToHalt, h]; rfl

theorem runToHalt_succ_of_fault {s : State} {f : Fault} (h : step s = .fault f) (k : Nat) :
    runToHalt (k + 1) s = .faulted f := by
  simp [runToHalt, h]

theorem runToHalt_succ_of_refused {s : State} {r : Refusal} (h : step s = .refused r) (k : Nat) :
    runToHalt (k + 1) s = .refused r := by
  simp [runToHalt, h]

@[simp] theorem stateAfter_zero (s : State) : stateAfter 0 s = some s := rfl

theorem stateAfter_succ_of_next {s t : State} (h : step s = .next t) (j : Nat) :
    stateAfter (j + 1) s = stateAfter j t := by
  simp [stateAfter, h]

theorem stateAfter_succ_of_fault {s : State} {f : Fault} (h : step s = .fault f) (j : Nat) :
    stateAfter (j + 1) s = none := by
  simp [stateAfter, h]

/-- Counting on from a state of the run. -/
theorem stateAfter_add (i j : Nat) (s : State) :
    stateAfter (i + j) s = (stateAfter i s).bind (stateAfter j) := by
  induction i generalizing s with
  | zero => simp
  | succ i ih =>
    cases hs : step s with
    | next t => rw [Nat.succ_add, stateAfter_succ_of_next hs, stateAfter_succ_of_next hs, ih]
    | fault f => rw [Nat.succ_add, stateAfter_succ_of_fault hs, stateAfter_succ_of_fault hs]; rfl
    | refused r => simp [Nat.succ_add, stateAfter, hs]

end Sys2Proof.Machine
end

