-- ==== Sys2Proof/Laws/Families.lean ====
section
/-! SUPPORT. The meaning of each family of rows as one equation over its operand: a proof about a family cites the equation
and splits on the shared operation, not on the 512 constructors. -/

namespace Sys2Proof.Machine

theorem exec_ld (x y : Reg8) (s : State) : exec (Instr.ld x y) s = loadReg x (s.reg y) 1 s := by
  cases x <;> cases y <;> rfl

theorem exec_ldImm (r : Reg8) (n : Byte) (s : State) : exec (Instr.ldImm r n) s = loadReg r n 2 s := by cases r <;> rfl

theorem exec_ldLoad (r : Reg8) (s : State) : exec (Instr.ldLoad r) s = loadReg r (s.readByte s.hl) 1 s := by cases r <;> rfl

theorem exec_ldStore (r : Reg8) (s : State) : exec (Instr.ldStore r) s = storeByte s.hl (s.reg r) 1 s := by cases r <;> rfl

theorem exec_ldPair (p : Pair) (nn : Word) (s : State) : exec (Instr.ldPair p nn) s = loadPair p nn 3 s := by cases p <;> rfl

theorem exec_alu (op : AluOp) (src : Source8) (s : State) : exec (Instr.alu op src) s = aluStep op src s := by
  cases op <;> cases src <;> first | rfl | (rename_i r; cases r <;> rfl)

theorem exec_inc (o : Operand8) (s : State) : exec (Instr.inc o) s = incOperand o s := by
  cases o <;> first | rfl | (rename_i r; cases r <;> rfl)

theorem exec_dec (o : Operand8) (s : State) : exec (Instr.dec o) s = decOperand o s := by
  cases o <;> first | rfl | (rename_i r; cases r <;> rfl)

theorem exec_addHL (p : Pair) (s : State) : exec (Instr.addHL p) s = addToHL p s := by cases p <;> rfl

theorem exec_incPair (p : Pair) (s : State) : exec (Instr.incPair p) s = stepPair p (s.pair p + 1#16) s := by cases p <;> rfl

theorem exec_decPair (p : Pair) (s : State) : exec (Instr.decPair p) s = stepPair p (s.pair p - 1#16) s := by cases p <;> rfl

theorem exec_rot (op : RotOp) (o : Operand8) (s : State) : exec (Instr.rot op o) s = rotateOperand op o s := by
  cases op <;> cases o <;> first | rfl | (rename_i r; cases r <;> rfl)

theorem exec_bit (b : Fin 8) (o : Operand8) (s : State) : exec (Instr.bit b o) s = testBit b o s := by
  match b with
  | 0 | 1 | 2 | 3 | 4 | 5 | 6 | 7 => cases o <;> first | rfl | (rename_i r; cases r <;> rfl)

theorem exec_res (b : Fin 8) (o : Operand8) (s : State) : exec (Instr.res b o) s = clearBit b o s := by
  match b with
  | 0 | 1 | 2 | 3 | 4 | 5 | 6 | 7 => cases o <;> first | rfl | (rename_i r; cases r <;> rfl)

theorem exec_set (b : Fin 8) (o : Operand8) (s : State) : exec (Instr.set b o) s = setBit b o s := by
  match b with
  | 0 | 1 | 2 | 3 | 4 | 5 | 6 | 7 => cases o <;> first | rfl | (rename_i r; cases r <;> rfl)

theorem exec_jpCond (cc : Cond) (nn : Word) (s : State) : exec (Instr.jpCond cc nn) s = jumpIf cc nn 3 s := by cases cc <;> rfl

theorem exec_jrCond (cc : Cond) (e : Byte) (s : State) : exec (Instr.jrCond cc e) s = jumpIf cc (relativeTarget e s) 2 s := by
  cases cc <;> rfl

theorem exec_callCond (cc : Cond) (nn : Word) (s : State) : exec (Instr.callCond cc nn) s = callIf cc nn s := by
  cases cc <;> rfl

theorem exec_retCond (cc : Cond) (s : State) : exec (Instr.retCond cc) s = returnIf cc s := by cases cc <;> rfl

theorem exec_rst (t : Fin 8) (s : State) : exec (Instr.rst t) s = restart t s := by
  match t with
  | 0 | 1 | 2 | 3 | 4 | 5 | 6 | 7 => rfl

end Sys2Proof.Machine
end

