-- ==== Sys2Proof/Laws/State.lean ====
section
/-! SUPPORT. One equation per field per update of State, so that no proof unfolds a record update. -/

namespace Sys2Proof.Machine

/-! ### setReg -/

@[simp] theorem State.flags_setReg (s : State) (r : Reg8) (v : Byte) : (s.setReg r v).flags = s.flags := by cases r <;> rfl
@[simp] theorem State.pc_setReg (s : State) (r : Reg8) (v : Byte) : (s.setReg r v).pc = s.pc := by cases r <;> rfl
@[simp] theorem State.sp_setReg (s : State) (r : Reg8) (v : Byte) : (s.setReg r v).sp = s.sp := by cases r <;> rfl
@[simp] theorem State.halted_setReg (s : State) (r : Reg8) (v : Byte) : (s.setReg r v).halted = s.halted := by cases r <;> rfl
@[simp] theorem State.mem_setReg (s : State) (r : Reg8) (v : Byte) : (s.setReg r v).mem = s.mem := by cases r <;> rfl

@[simp] theorem State.reg_setReg_same (s : State) (r : Reg8) (v : Byte) : (s.setReg r v).reg r = v := by cases r <;> rfl

theorem State.reg_setReg_other (s : State) (r q : Reg8) (v : Byte) (h : q ≠ r) : (s.setReg r v).reg q = s.reg q := by
  cases r <;> cases q <;> first | rfl | exact absurd rfl h

theorem State.reg_setReg (s : State) (r q : Reg8) (v : Byte) : (s.setReg r v).reg q = if q = r then v else s.reg q := by
  cases r <;> cases q <;> rfl

/-- Writing a register's own value changes nothing. -/
@[simp] theorem State.setReg_reg (s : State) (r : Reg8) : s.setReg r (s.reg r) = s := by cases r <;> rfl

/-! ### writeByte -/

@[simp] theorem State.a_writeByte (s : State) (addr : Word) (v : Byte) : (s.writeByte addr v).a = s.a := rfl
@[simp] theorem State.b_writeByte (s : State) (addr : Word) (v : Byte) : (s.writeByte addr v).b = s.b := rfl
@[simp] theorem State.c_writeByte (s : State) (addr : Word) (v : Byte) : (s.writeByte addr v).c = s.c := rfl
@[simp] theorem State.d_writeByte (s : State) (addr : Word) (v : Byte) : (s.writeByte addr v).d = s.d := rfl
@[simp] theorem State.e_writeByte (s : State) (addr : Word) (v : Byte) : (s.writeByte addr v).e = s.e := rfl
@[simp] theorem State.h_writeByte (s : State) (addr : Word) (v : Byte) : (s.writeByte addr v).h = s.h := rfl
@[simp] theorem State.l_writeByte (s : State) (addr : Word) (v : Byte) : (s.writeByte addr v).l = s.l := rfl
@[simp] theorem State.flags_writeByte (s : State) (addr : Word) (v : Byte) : (s.writeByte addr v).flags = s.flags := rfl
@[simp] theorem State.pc_writeByte (s : State) (addr : Word) (v : Byte) : (s.writeByte addr v).pc = s.pc := rfl
@[simp] theorem State.sp_writeByte (s : State) (addr : Word) (v : Byte) : (s.writeByte addr v).sp = s.sp := rfl
@[simp] theorem State.halted_writeByte (s : State) (addr : Word) (v : Byte) : (s.writeByte addr v).halted = s.halted := rfl
@[simp] theorem State.mem_writeByte (s : State) (addr : Word) (v : Byte) : (s.writeByte addr v).mem = s.mem.write addr.toNat v := rfl

/-! ### setHL -/

@[simp] theorem State.a_setHL (s : State) (w : Word) : (s.setHL w).a = s.a := rfl
@[simp] theorem State.b_setHL (s : State) (w : Word) : (s.setHL w).b = s.b := rfl
@[simp] theorem State.c_setHL (s : State) (w : Word) : (s.setHL w).c = s.c := rfl
@[simp] theorem State.d_setHL (s : State) (w : Word) : (s.setHL w).d = s.d := rfl
@[simp] theorem State.e_setHL (s : State) (w : Word) : (s.setHL w).e = s.e := rfl
@[simp] theorem State.h_setHL (s : State) (w : Word) : (s.setHL w).h = hi8 w := rfl
@[simp] theorem State.l_setHL (s : State) (w : Word) : (s.setHL w).l = lo8 w := rfl
@[simp] theorem State.flags_setHL (s : State) (w : Word) : (s.setHL w).flags = s.flags := rfl
@[simp] theorem State.pc_setHL (s : State) (w : Word) : (s.setHL w).pc = s.pc := rfl
@[simp] theorem State.sp_setHL (s : State) (w : Word) : (s.setHL w).sp = s.sp := rfl
@[simp] theorem State.halted_setHL (s : State) (w : Word) : (s.setHL w).halted = s.halted := rfl
@[simp] theorem State.mem_setHL (s : State) (w : Word) : (s.setHL w).mem = s.mem := rfl

/-! ### setPair -/

@[simp] theorem State.a_setPair (s : State) (p : Pair) (w : Word) : (s.setPair p w).a = s.a := by cases p <;> rfl
@[simp] theorem State.flags_setPair (s : State) (p : Pair) (w : Word) : (s.setPair p w).flags = s.flags := by cases p <;> rfl
@[simp] theorem State.pc_setPair (s : State) (p : Pair) (w : Word) : (s.setPair p w).pc = s.pc := by cases p <;> rfl
@[simp] theorem State.halted_setPair (s : State) (p : Pair) (w : Word) : (s.setPair p w).halted = s.halted := by cases p <;> rfl
@[simp] theorem State.mem_setPair (s : State) (p : Pair) (w : Word) : (s.setPair p w).mem = s.mem := by cases p <;> rfl

/-! ### setFlags -/

@[simp] theorem State.a_setFlags (s : State) (f : Flags) : (s.setFlags f).a = s.a := rfl
@[simp] theorem State.b_setFlags (s : State) (f : Flags) : (s.setFlags f).b = s.b := rfl
@[simp] theorem State.c_setFlags (s : State) (f : Flags) : (s.setFlags f).c = s.c := rfl
@[simp] theorem State.d_setFlags (s : State) (f : Flags) : (s.setFlags f).d = s.d := rfl
@[simp] theorem State.e_setFlags (s : State) (f : Flags) : (s.setFlags f).e = s.e := rfl
@[simp] theorem State.h_setFlags (s : State) (f : Flags) : (s.setFlags f).h = s.h := rfl
@[simp] theorem State.l_setFlags (s : State) (f : Flags) : (s.setFlags f).l = s.l := rfl
@[simp] theorem State.flags_setFlags (s : State) (f : Flags) : (s.setFlags f).flags = f := rfl
@[simp] theorem State.pc_setFlags (s : State) (f : Flags) : (s.setFlags f).pc = s.pc := rfl
@[simp] theorem State.sp_setFlags (s : State) (f : Flags) : (s.setFlags f).sp = s.sp := rfl
@[simp] theorem State.halted_setFlags (s : State) (f : Flags) : (s.setFlags f).halted = s.halted := rfl
@[simp] theorem State.mem_setFlags (s : State) (f : Flags) : (s.setFlags f).mem = s.mem := rfl

/-! ### setPc, advance -/

@[simp] theorem State.a_setPc (s : State) (target : Word) : (s.setPc target).a = s.a := rfl
@[simp] theorem State.b_setPc (s : State) (target : Word) : (s.setPc target).b = s.b := rfl
@[simp] theorem State.c_setPc (s : State) (target : Word) : (s.setPc target).c = s.c := rfl
@[simp] theorem State.d_setPc (s : State) (target : Word) : (s.setPc target).d = s.d := rfl
@[simp] theorem State.e_setPc (s : State) (target : Word) : (s.setPc target).e = s.e := rfl
@[simp] theorem State.h_setPc (s : State) (target : Word) : (s.setPc target).h = s.h := rfl
@[simp] theorem State.l_setPc (s : State) (target : Word) : (s.setPc target).l = s.l := rfl
@[simp] theorem State.flags_setPc (s : State) (target : Word) : (s.setPc target).flags = s.flags := rfl
@[simp] theorem State.pc_setPc (s : State) (target : Word) : (s.setPc target).pc = target := rfl
@[simp] theorem State.sp_setPc (s : State) (target : Word) : (s.setPc target).sp = s.sp := rfl
@[simp] theorem State.halted_setPc (s : State) (target : Word) : (s.setPc target).halted = s.halted := rfl
@[simp] theorem State.mem_setPc (s : State) (target : Word) : (s.setPc target).mem = s.mem := rfl

@[simp] theorem State.a_advance (s : State) (n : Nat) : (s.advance n).a = s.a := rfl
@[simp] theorem State.b_advance (s : State) (n : Nat) : (s.advance n).b = s.b := rfl
@[simp] theorem State.c_advance (s : State) (n : Nat) : (s.advance n).c = s.c := rfl
@[simp] theorem State.d_advance (s : State) (n : Nat) : (s.advance n).d = s.d := rfl
@[simp] theorem State.e_advance (s : State) (n : Nat) : (s.advance n).e = s.e := rfl
@[simp] theorem State.h_advance (s : State) (n : Nat) : (s.advance n).h = s.h := rfl
@[simp] theorem State.l_advance (s : State) (n : Nat) : (s.advance n).l = s.l := rfl
@[simp] theorem State.flags_advance (s : State) (n : Nat) : (s.advance n).flags = s.flags := rfl
@[simp] theorem State.pc_advance (s : State) (n : Nat) : (s.advance n).pc = s.pc + BitVec.ofNat 16 n := rfl
@[simp] theorem State.sp_advance (s : State) (n : Nat) : (s.advance n).sp = s.sp := rfl
@[simp] theorem State.halted_advance (s : State) (n : Nat) : (s.advance n).halted = s.halted := rfl
@[simp] theorem State.mem_advance (s : State) (n : Nat) : (s.advance n).mem = s.mem := rfl

/-! ### setAfWith -/

@[simp] theorem State.a_setAfWith (s : State) (p : FlagPacking) (w : Word) : (s.setAfWith p w).a = hi8 w := rfl
@[simp] theorem State.b_setAfWith (s : State) (p : FlagPacking) (w : Word) : (s.setAfWith p w).b = s.b := rfl
@[simp] theorem State.c_setAfWith (s : State) (p : FlagPacking) (w : Word) : (s.setAfWith p w).c = s.c := rfl
@[simp] theorem State.d_setAfWith (s : State) (p : FlagPacking) (w : Word) : (s.setAfWith p w).d = s.d := rfl
@[simp] theorem State.e_setAfWith (s : State) (p : FlagPacking) (w : Word) : (s.setAfWith p w).e = s.e := rfl
@[simp] theorem State.h_setAfWith (s : State) (p : FlagPacking) (w : Word) : (s.setAfWith p w).h = s.h := rfl
@[simp] theorem State.l_setAfWith (s : State) (p : FlagPacking) (w : Word) : (s.setAfWith p w).l = s.l := rfl
@[simp] theorem State.flags_setAfWith (s : State) (p : FlagPacking) (w : Word) : (s.setAfWith p w).flags = p.unpack (lo8 w) := rfl
@[simp] theorem State.pc_setAfWith (s : State) (p : FlagPacking) (w : Word) : (s.setAfWith p w).pc = s.pc := rfl
@[simp] theorem State.sp_setAfWith (s : State) (p : FlagPacking) (w : Word) : (s.setAfWith p w).sp = s.sp := rfl
@[simp] theorem State.halted_setAfWith (s : State) (p : FlagPacking) (w : Word) : (s.setAfWith p w).halted = s.halted := rfl
@[simp] theorem State.mem_setAfWith (s : State) (p : FlagPacking) (w : Word) : (s.setAfWith p w).mem = s.mem := rfl

/-! ### The register view under the other updates -/

@[simp] theorem State.reg_writeByte (s : State) (addr : Word) (v : Byte) (r : Reg8) : (s.writeByte addr v).reg r = s.reg r := by cases r <;> rfl
@[simp] theorem State.reg_setFlags (s : State) (f : Flags) (r : Reg8) : (s.setFlags f).reg r = s.reg r := by cases r <;> rfl
@[simp] theorem State.reg_setPc (s : State) (target : Word) (r : Reg8) : (s.setPc target).reg r = s.reg r := by cases r <;> rfl
@[simp] theorem State.reg_advance (s : State) (n : Nat) (r : Reg8) : (s.advance n).reg r = s.reg r := by cases r <;> rfl

/-! ### Words and their halves -/

@[simp] theorem hi8_wordOf (x y : Byte) : hi8 (wordOf x y) = x := by
  unfold hi8 wordOf
  ext i hi
  simp only [BitVec.getElem_extractLsb', BitVec.getLsbD_append]
  rw [if_neg (by omega), ← BitVec.getLsbD_eq_getElem]
  congr 1
  omega

@[simp] theorem lo8_wordOf (x y : Byte) : lo8 (wordOf x y) = y := by
  unfold lo8 wordOf
  ext i hi
  simp only [BitVec.getElem_extractLsb', BitVec.getLsbD_append]
  rw [if_pos (by omega), ← BitVec.getLsbD_eq_getElem]
  congr 1
  omega

@[simp] theorem wordOf_hi8_lo8 (w : Word) : wordOf (hi8 w) (lo8 w) = w := by
  unfold wordOf hi8 lo8
  ext i hi
  simp only [← BitVec.getLsbD_eq_getElem, BitVec.getLsbD_append, BitVec.getLsbD_extractLsb']
  split
  · simp_all
  · rw [show 8 + (i - 8) = i by omega]
    simp only [show decide (i - 8 < 8) = true by simpa using (by omega : i - 8 < 8), Bool.true_and]

theorem toNat_wordOf (x y : Byte) : (wordOf x y).toNat = x.toNat * 256 + y.toNat := by
  simp only [wordOf, BitVec.toNat_append]
  rw [← Nat.shiftLeft_add_eq_or_of_lt y.isLt, Nat.shiftLeft_eq]

/-! ### Views -/

@[simp] theorem State.hl_setHL (s : State) (w : Word) : (s.setHL w).hl = w := wordOf_hi8_lo8 w

@[simp] theorem State.pair_setPair_same (s : State) (p : Pair) (w : Word) : (s.setPair p w).pair p = w := by
  cases p <;> first | exact wordOf_hi8_lo8 w | rfl

/-- A pair's write leaves every register that is not one of its halves. -/
theorem State.reg_setPair_a (s : State) (p : Pair) (w : Word) : (s.setPair p w).reg .a = s.reg .a := by cases p <;> rfl

end Sys2Proof.Machine
end

