-- ==== Sys2Proof/Laws/Ops.lean ====
section
/-! SUPPORT. What each shared operation can do, said once: the laws of memory, the canonical form, and one lemma for each
checked access, the stack and the fetch. -/

namespace Sys2Proof.Machine

/-! ### Memory as a list -/

theorem Memory.read_erase (m : Memory) (x y : Nat) :
    (m.erase x).read y = if y = x then Config.unloadedByte else m.read y := by
  induction m with
  | nil => simp [Memory.erase, Memory.read]
  | cons p m ih =>
    obtain ⟨k, w⟩ := p
    by_cases hk : k = x
    · subst hk
      have : Memory.erase ((k, w) :: m) k = Memory.erase m k := by simp [Memory.erase]
      rw [this, ih]
      by_cases hy : y = k
      · simp [hy]
      · simp [hy, Memory.read, Ne.symm hy]
    · have : Memory.erase ((k, w) :: m) x = (k, w) :: Memory.erase m x := by simp [Memory.erase, hk]
      rw [this]
      simp only [Memory.read, ih]
      by_cases hy : k = y
      · subst hy; simp [hk]
      · simp [hy]

theorem Memory.read_insert_other (m : Memory) (x y : Nat) (v : Byte) (h : y ≠ x) :
    (Memory.insert x v m).read y = m.read y := by
  induction m with
  | nil => simp [Memory.insert, Memory.read, Ne.symm h]
  | cons p m ih =>
    obtain ⟨k, w⟩ := p
    simp only [Memory.insert]
    split
    · simp [Memory.read, Ne.symm h]
    · simp [Memory.read, ih]

theorem Memory.read_insert_same (m : Memory) (x : Nat) (v : Byte) (h : ∀ p ∈ m, p.1 ≠ x) :
    (Memory.insert x v m).read x = v := by
  induction m with
  | nil => simp [Memory.insert, Memory.read]
  | cons p m ih =>
    obtain ⟨k, w⟩ := p
    have hk : k ≠ x := h (k, w) (by simp)
    simp only [Memory.insert]
    split
    · simp [Memory.read]
    · simp [Memory.read, hk, ih (fun p hp => h p (by simp [hp]))]

theorem Memory.not_mem_erase (m : Memory) (x : Nat) : ∀ p ∈ m.erase x, p.1 ≠ x := by
  intro p hp
  simpa using (List.mem_filter.mp hp).2

/-- A byte written reads back. -/
@[simp] theorem Memory.read_write_same (m : Memory) (x : Nat) (v : Byte) : (m.write x v).read x = v := by
  unfold Memory.write
  split
  · rename_i h; simp [Memory.read_erase, h]
  · exact Memory.read_insert_same _ _ _ (Memory.not_mem_erase m x)

/-- A write leaves every other byte alone (R51). -/
theorem Memory.read_write_other (m : Memory) (x y : Nat) (v : Byte) (h : y ≠ x) : (m.write x v).read y = m.read y := by
  unfold Memory.write
  split
  · simp [Memory.read_erase, h]
  · rw [Memory.read_insert_other _ _ _ _ h, Memory.read_erase, if_neg h]

theorem Memory.read_write (m : Memory) (x y : Nat) (v : Byte) :
    (m.write x v).read y = if y = x then v else m.read y := by
  split
  · next h => subst h; simp
  · next h => exact Memory.read_write_other m x y v h

/-! ### The canonical form -/

theorem Memory.wf_erase {m : Memory} (h : m.wf) (x : Nat) : Memory.wf (m.erase x) :=
  ⟨h.1.sublist List.filter_sublist, fun p hp => h.2 p (List.mem_of_mem_filter hp)⟩

theorem Memory.mem_insert {m : Memory} {x : Nat} {v : Byte} {p : Host.Cell} (h : p ∈ Memory.insert x v m) :
    p = (x, v) ∨ p ∈ m := by
  induction m with
  | nil => simpa [Memory.insert] using h
  | cons q m ih =>
    obtain ⟨k, w⟩ := q
    simp only [Memory.insert] at h
    split at h
    · simpa using h
    · rcases List.mem_cons.mp h with h | h
      · simp [h]
      · rcases ih h with h | h <;> simp [h]

theorem Memory.pairwise_insert {m : Memory} (x : Nat) (v : Byte) (h : m.Pairwise (fun p q => p.1 < q.1))
    (hx : ∀ p ∈ m, p.1 ≠ x) : (Memory.insert x v m).Pairwise (fun p q => p.1 < q.1) := by
  induction m with
  | nil => simp [Memory.insert]
  | cons q m ih =>
    obtain ⟨k, w⟩ := q
    rw [List.pairwise_cons] at h
    simp only [Memory.insert]
    split
    · next hlt =>
      refine List.pairwise_cons.mpr ⟨?_, List.pairwise_cons.mpr h⟩
      intro p hp
      rcases List.mem_cons.mp hp with hp | hp
      · rw [hp]; exact hlt
      · exact Nat.lt_trans hlt (h.1 p hp)
    · next hlt =>
      refine List.pairwise_cons.mpr ⟨?_, ih h.2 (fun p hp => hx p (by simp [hp]))⟩
      intro p hp
      rcases Memory.mem_insert hp with hp | hp
      · subst hp
        have := hx (k, w) (by simp)
        simp only at this ⊢
        omega
      · exact h.1 p hp

/-- A write inside the space keeps the canonical form. -/
theorem Memory.wf_write {m : Memory} (h : m.wf) {x : Nat} (hx : x < Config.memSize) (v : Byte) :
    Memory.wf (m.write x v) := by
  unfold Memory.write
  split
  · exact Memory.wf_erase h x
  · next hv =>
    refine ⟨Memory.pairwise_insert x v (Memory.wf_erase h x).1 (Memory.not_mem_erase m x), ?_⟩
    intro p hp
    rcases Memory.mem_insert hp with hp | hp
    · subst hp; exact ⟨hx, hv⟩
    · exact (Memory.wf_erase h x).2 p hp

/-- Storing a run of bytes keeps the canonical form, wherever it starts. -/
theorem Memory.wf_storeFrom {m : Memory} (h : m.wf) (x : Nat) (vs : List Byte) : Memory.wf (m.storeFrom x vs) := by
  induction vs generalizing m x with
  | nil => exact h
  | cons v vs ih =>
    simp only [Memory.storeFrom]
    split
    · next hx => exact ih (Memory.wf_write h hx v) (x + 1)
    · exact h

theorem State.wf_writeByte {s : State} (h : s.mem.wf) (x : Word) (v : Byte) : Memory.wf (s.writeByte x v).mem :=
  Memory.wf_write h x.isLt v

theorem State.wf_withFetchWord {s : State} (h : s.mem.wf) (nbits w : Nat) : Memory.wf (s.withFetchWord nbits w).mem :=
  Memory.wf_storeFrom h _ _

theorem State.wf_reset : Memory.wf State.reset.mem := by decide

/-- An address that is not listed reads as the unloaded byte. -/
theorem Memory.read_of_not_mem {m : Memory} {x : Nat} (h : ∀ p ∈ m, p.1 ≠ x) : m.read x = Config.unloadedByte := by
  induction m with
  | nil => rfl
  | cons p m ih =>
    obtain ⟨k, w⟩ := p
    have hk : k ≠ x := h (k, w) (by simp)
    simp [Memory.read, hk, ih (fun p hp => h p (by simp [hp]))]

/-! ### Reading bytes after a store -/

@[simp] theorem State.readByte_writeByte_same (s : State) (x : Word) (v : Byte) : (s.writeByte x v).readByte x = v :=
  Memory.read_write_same _ _ _

theorem State.readByte_writeByte_other (s : State) (x y : Word) (v : Byte) (h : y ≠ x) :
    (s.writeByte x v).readByte y = s.readByte y :=
  Memory.read_write_other _ _ _ _ (fun h' => h (BitVec.eq_of_toNat_eq h'))

/-! ### Checked accesses -/

/-- Inside the space a checked read answers the byte. -/
theorem memRead_ok (s : State) (x : Nat) (h : x < 0x10000) : memRead s (x : Int) = .ok (s.mem.read x) := by
  unfold memRead
  rw [if_neg (by omega)]
  rfl

/-- Outside it raises the exception with the unbounded address. -/
theorem memRead_fault (s : State) (x : Int) (h : x < 0 ∨ x > 0xFFFF) : memRead s x = .error (.boundsViolation x) := by
  unfold memRead
  rw [if_pos h]
  rfl

theorem memWrite_ok (s : State) (x : Nat) (v : Byte) (h : x < 0x10000) :
    memWrite s (x : Int) v = .ok { s with mem := s.mem.write x v } := by
  unfold memWrite
  rw [if_neg (by omega)]
  rfl

theorem memWrite_fault (s : State) (x : Int) (v : Byte) (h : x < 0 ∨ x > 0xFFFF) :
    memWrite s x v = .error (.boundsViolation x) := by
  unfold memWrite
  rw [if_pos h]
  rfl

/-! ### The stack -/

/-- Push16 where both slots lie inside the space (R140). -/
theorem push16_ok (s : State) (w : Word) (h : 2 ≤ s.sp.toNat) :
    push16 s w = .ok { s with
      mem := (s.mem.write (s.sp.toNat - 1) (hi8 w)).write (s.sp.toNat - 2) (lo8 w), sp := s.sp - 2#16 } := by
  have hs := s.sp.isLt
  have h1 : ((s.sp.toNat : Int) - 1) = ((s.sp.toNat - 1 : Nat) : Int) := by omega
  have h2 : ((s.sp.toNat : Int) - 2) = ((s.sp.toNat - 2 : Nat) : Int) := by omega
  simp only [push16, h1, h2, memWrite_ok _ _ _ (show s.sp.toNat - 1 < 0x10000 by omega),
    memWrite_ok _ _ _ (show s.sp.toNat - 2 < 0x10000 by omega)]

/-- Push16 with SP = 0 or 1 raises BoundsViolation(-1) (R140, R301). -/
theorem push16_fault (s : State) (w : Word) (h : s.sp.toNat < 2) : push16 s w = .error (.boundsViolation (-1)) := by
  unfold push16
  rcases Nat.lt_or_ge s.sp.toNat 1 with h0 | h1
  · have : (s.sp.toNat : Int) - 1 = -1 := by omega
    rw [this, memWrite_fault _ _ _ (by omega)]
  · have e1 : (s.sp.toNat : Int) - 1 = ((0 : Nat) : Int) := by omega
    have e2 : (s.sp.toNat : Int) - 2 = -1 := by omega
    rw [e1, memWrite_ok _ _ _ (by omega), e2]
    simp only
    rw [memWrite_fault _ _ _ (by omega)]

/-- Pop16 where both slots lie inside the space (R140). -/
theorem pop16_ok (s : State) (h : s.sp.toNat < 0xFFFF) :
    pop16 s = .ok (wordOf (s.mem.read (s.sp.toNat + 1)) (s.mem.read s.sp.toNat), { s with sp := s.sp + 2#16 }) := by
  have e : (s.sp.toNat : Int) + 1 = ((s.sp.toNat + 1 : Nat) : Int) := by omega
  simp only [pop16, e, memRead_ok _ _ s.sp.isLt, memRead_ok _ _ (show s.sp.toNat + 1 < 0x10000 by omega)]

/-- Pop16 with SP = 0xFFFF raises BoundsViolation(0x10000) (R140, R301). -/
theorem pop16_fault (s : State) (h : s.sp.toNat = 0xFFFF) : pop16 s = .error (.boundsViolation 0x10000) := by
  unfold pop16
  rw [memRead_ok _ _ s.sp.isLt]
  simp only
  rw [memRead_fault _ _ (by omega), h]
  rfl

/-- Everything a call can do. -/
theorem callTo_ok (s : State) (ret target : Word) (h : 2 ≤ s.sp.toNat) :
    callTo s ret target = .next { s with
      mem := (s.mem.write (s.sp.toNat - 1) (hi8 ret)).write (s.sp.toNat - 2) (lo8 ret), sp := s.sp - 2#16, pc := target } := by
  unfold callTo
  rw [push16_ok s ret h]
  rfl

theorem callTo_fault (s : State) (ret target : Word) (h : s.sp.toNat < 2) :
    callTo s ret target = .fault (.boundsViolation (-1)) := by
  unfold callTo
  rw [push16_fault s ret h]

/-- Everything a return can do. -/
theorem returnToCaller_ok (s : State) (h : s.sp.toNat < 0xFFFF) :
    returnToCaller s = .next { s with
      sp := s.sp + 2#16, pc := wordOf (s.mem.read (s.sp.toNat + 1)) (s.mem.read s.sp.toNat) } := by
  unfold returnToCaller
  rw [pop16_ok s h]
  rfl

theorem returnToCaller_fault (s : State) (h : s.sp.toNat = 0xFFFF) :
    returnToCaller s = .fault (.boundsViolation 0x10000) := by
  unfold returnToCaller
  rw [pop16_fault s h]

/-! ### The fetch -/

/-- A run of bytes inside the space is fetched in ascending order. -/
theorem fetchFrom_ok (s : State) (base n : Nat) (h : base + n ≤ 0x10000) :
    fetchFrom s (base : Int) n = .ok ((List.range' base n).map s.mem.read) := by
  induction n generalizing base with
  | zero => rfl
  | succ n ih =>
    have e : (base : Int) + 1 = ((base + 1 : Nat) : Int) := by omega
    simp only [fetchFrom, memRead_ok _ _ (show base < 0x10000 by omega), e, ih (base + 1) (by omega), List.range'_succ,
      List.map_cons]

/-- A run that reaches above 0xFFFF raises BoundsViolation(0x10000), the first address outside (R66). -/
theorem fetchFrom_fault (s : State) (base n : Nat) (hb : base ≤ 0x10000) (h : base + n > 0x10000) :
    fetchFrom s (base : Int) n = .error (.boundsViolation 0x10000) := by
  induction n generalizing base with
  | zero => omega
  | succ n ih =>
    rcases Nat.lt_or_ge base 0x10000 with hlt | hge
    · have e : (base : Int) + 1 = ((base + 1 : Nat) : Int) := by omega
      simp only [fetchFrom, memRead_ok _ _ hlt, e, ih (base + 1) (by omega) (by omega)]
    · have : (base : Int) = 0x10000 := by omega
      simp only [fetchFrom, this, memRead_fault s 0x10000 (by omega)]

end Sys2Proof.Machine
end

