-- ==== Sys2Proof/Laws/PerInstr.lean ====
section
/-! SUPPORT. What holds of every instruction as syntax, one lemma for each constructor of Instr. EncodedLength: a whole
instruction's encoding has exactly the bytes the length table gives its first byte (spec/30_encoding.md R80, R96). -/

namespace Sys2Proof.Laws.EncodedLength

/-- A whole instruction is encoded in as many bytes as the length table says (R80, R81). -/
def Statement (i : Instr) : Prop := i.wellFormed = true → (encode i).length = i.length

theorem nop : Statement .nop := fun _ => rfl
theorem ldBC_nn (nn : Word) : Statement (.ldBC_nn nn) := fun _ => rfl
theorem ldIndBC_A : Statement .ldIndBC_A := fun _ => rfl
theorem incBC : Statement .incBC := fun _ => rfl
theorem incB : Statement .incB := fun _ => rfl
theorem decB : Statement .decB := fun _ => rfl
theorem ldB_n (n : Byte) : Statement (.ldB_n n) := fun _ => rfl
theorem rlca : Statement .rlca := fun _ => rfl
theorem ldIndNN_SP (nn : Word) : Statement (.ldIndNN_SP nn) := fun _ => rfl
theorem addHL_BC : Statement .addHL_BC := fun _ => rfl
theorem ldA_IndBC : Statement .ldA_IndBC := fun _ => rfl
theorem decBC : Statement .decBC := fun _ => rfl
theorem incC : Statement .incC := fun _ => rfl
theorem decC : Statement .decC := fun _ => rfl
theorem ldC_n (n : Byte) : Statement (.ldC_n n) := fun _ => rfl
theorem rrca : Statement .rrca := fun _ => rfl
theorem stop : Statement .stop := fun _ => rfl
theorem ldDE_nn (nn : Word) : Statement (.ldDE_nn nn) := fun _ => rfl
theorem ldIndDE_A : Statement .ldIndDE_A := fun _ => rfl
theorem incDE : Statement .incDE := fun _ => rfl
theorem incD : Statement .incD := fun _ => rfl
theorem decD : Statement .decD := fun _ => rfl
theorem ldD_n (n : Byte) : Statement (.ldD_n n) := fun _ => rfl
theorem rla : Statement .rla := fun _ => rfl
theorem jr_e (e : Byte) : Statement (.jr_e e) := fun _ => rfl
theorem addHL_DE : Statement .addHL_DE := fun _ => rfl
theorem ldA_IndDE : Statement .ldA_IndDE := fun _ => rfl
theorem decDE : Statement .decDE := fun _ => rfl
theorem incE : Statement .incE := fun _ => rfl
theorem decE : Statement .decE := fun _ => rfl
theorem ldE_n (n : Byte) : Statement (.ldE_n n) := fun _ => rfl
theorem rra : Statement .rra := fun _ => rfl
theorem jrNZ_e (e : Byte) : Statement (.jrNZ_e e) := fun _ => rfl
theorem ldHL_nn (nn : Word) : Statement (.ldHL_nn nn) := fun _ => rfl
theorem ldIndHLInc_A : Statement .ldIndHLInc_A := fun _ => rfl
theorem incHL : Statement .incHL := fun _ => rfl
theorem incH : Statement .incH := fun _ => rfl
theorem decH : Statement .decH := fun _ => rfl
theorem ldH_n (n : Byte) : Statement (.ldH_n n) := fun _ => rfl
theorem daa : Statement .daa := fun _ => rfl
theorem jrZ_e (e : Byte) : Statement (.jrZ_e e) := fun _ => rfl
theorem addHL_HL : Statement .addHL_HL := fun _ => rfl
theorem ldA_IndHLInc : Statement .ldA_IndHLInc := fun _ => rfl
theorem decHL : Statement .decHL := fun _ => rfl
theorem incL : Statement .incL := fun _ => rfl
theorem decL : Statement .decL := fun _ => rfl
theorem ldL_n (n : Byte) : Statement (.ldL_n n) := fun _ => rfl
theorem cpl : Statement .cpl := fun _ => rfl
theorem jrNC_e (e : Byte) : Statement (.jrNC_e e) := fun _ => rfl
theorem ldSP_nn (nn : Word) : Statement (.ldSP_nn nn) := fun _ => rfl
theorem ldIndHLDec_A : Statement .ldIndHLDec_A := fun _ => rfl
theorem incSP : Statement .incSP := fun _ => rfl
theorem incIndHL : Statement .incIndHL := fun _ => rfl
theorem decIndHL : Statement .decIndHL := fun _ => rfl
theorem ldIndHL_n (n : Byte) : Statement (.ldIndHL_n n) := fun _ => rfl
theorem scf : Statement .scf := fun _ => rfl
theorem jrC_e (e : Byte) : Statement (.jrC_e e) := fun _ => rfl
theorem addHL_SP : Statement .addHL_SP := fun _ => rfl
theorem ldA_IndHLDec : Statement .ldA_IndHLDec := fun _ => rfl
theorem decSP : Statement .decSP := fun _ => rfl
theorem incA : Statement .incA := fun _ => rfl
theorem decA : Statement .decA := fun _ => rfl
theorem ldA_n (n : Byte) : Statement (.ldA_n n) := fun _ => rfl
theorem ccf : Statement .ccf := fun _ => rfl
theorem ldB_B : Statement .ldB_B := fun _ => rfl
theorem ldB_C : Statement .ldB_C := fun _ => rfl
theorem ldB_D : Statement .ldB_D := fun _ => rfl
theorem ldB_E : Statement .ldB_E := fun _ => rfl
theorem ldB_H : Statement .ldB_H := fun _ => rfl
theorem ldB_L : Statement .ldB_L := fun _ => rfl
theorem ldB_IndHL : Statement .ldB_IndHL := fun _ => rfl
theorem ldB_A : Statement .ldB_A := fun _ => rfl
theorem ldC_B : Statement .ldC_B := fun _ => rfl
theorem ldC_C : Statement .ldC_C := fun _ => rfl
theorem ldC_D : Statement .ldC_D := fun _ => rfl
theorem ldC_E : Statement .ldC_E := fun _ => rfl
theorem ldC_H : Statement .ldC_H := fun _ => rfl
theorem ldC_L : Statement .ldC_L := fun _ => rfl
theorem ldC_IndHL : Statement .ldC_IndHL := fun _ => rfl
theorem ldC_A : Statement .ldC_A := fun _ => rfl
theorem ldD_B : Statement .ldD_B := fun _ => rfl
theorem ldD_C : Statement .ldD_C := fun _ => rfl
theorem ldD_D : Statement .ldD_D := fun _ => rfl
theorem ldD_E : Statement .ldD_E := fun _ => rfl
theorem ldD_H : Statement .ldD_H := fun _ => rfl
theorem ldD_L : Statement .ldD_L := fun _ => rfl
theorem ldD_IndHL : Statement .ldD_IndHL := fun _ => rfl
theorem ldD_A : Statement .ldD_A := fun _ => rfl
theorem ldE_B : Statement .ldE_B := fun _ => rfl
theorem ldE_C : Statement .ldE_C := fun _ => rfl
theorem ldE_D : Statement .ldE_D := fun _ => rfl
theorem ldE_E : Statement .ldE_E := fun _ => rfl
theorem ldE_H : Statement .ldE_H := fun _ => rfl
theorem ldE_L : Statement .ldE_L := fun _ => rfl
theorem ldE_IndHL : Statement .ldE_IndHL := fun _ => rfl
theorem ldE_A : Statement .ldE_A := fun _ => rfl
theorem ldH_B : Statement .ldH_B := fun _ => rfl
theorem ldH_C : Statement .ldH_C := fun _ => rfl
theorem ldH_D : Statement .ldH_D := fun _ => rfl
theorem ldH_E : Statement .ldH_E := fun _ => rfl
theorem ldH_H : Statement .ldH_H := fun _ => rfl
theorem ldH_L : Statement .ldH_L := fun _ => rfl
theorem ldH_IndHL : Statement .ldH_IndHL := fun _ => rfl
theorem ldH_A : Statement .ldH_A := fun _ => rfl
theorem ldL_B : Statement .ldL_B := fun _ => rfl
theorem ldL_C : Statement .ldL_C := fun _ => rfl
theorem ldL_D : Statement .ldL_D := fun _ => rfl
theorem ldL_E : Statement .ldL_E := fun _ => rfl
theorem ldL_H : Statement .ldL_H := fun _ => rfl
theorem ldL_L : Statement .ldL_L := fun _ => rfl
theorem ldL_IndHL : Statement .ldL_IndHL := fun _ => rfl
theorem ldL_A : Statement .ldL_A := fun _ => rfl
theorem ldIndHL_B : Statement .ldIndHL_B := fun _ => rfl
theorem ldIndHL_C : Statement .ldIndHL_C := fun _ => rfl
theorem ldIndHL_D : Statement .ldIndHL_D := fun _ => rfl
theorem ldIndHL_E : Statement .ldIndHL_E := fun _ => rfl
theorem ldIndHL_H : Statement .ldIndHL_H := fun _ => rfl
theorem ldIndHL_L : Statement .ldIndHL_L := fun _ => rfl
theorem halt : Statement .halt := fun _ => rfl
theorem ldIndHL_A : Statement .ldIndHL_A := fun _ => rfl
theorem ldA_B : Statement .ldA_B := fun _ => rfl
theorem ldA_C : Statement .ldA_C := fun _ => rfl
theorem ldA_D : Statement .ldA_D := fun _ => rfl
theorem ldA_E : Statement .ldA_E := fun _ => rfl
theorem ldA_H : Statement .ldA_H := fun _ => rfl
theorem ldA_L : Statement .ldA_L := fun _ => rfl
theorem ldA_IndHL : Statement .ldA_IndHL := fun _ => rfl
theorem ldA_A : Statement .ldA_A := fun _ => rfl
theorem addA_B : Statement .addA_B := fun _ => rfl
theorem addA_C : Statement .addA_C := fun _ => rfl
theorem addA_D : Statement .addA_D := fun _ => rfl
theorem addA_E : Statement .addA_E := fun _ => rfl
theorem addA_H : Statement .addA_H := fun _ => rfl
theorem addA_L : Statement .addA_L := fun _ => rfl
theorem addA_IndHL : Statement .addA_IndHL := fun _ => rfl
theorem addA_A : Statement .addA_A := fun _ => rfl
theorem adcA_B : Statement .adcA_B := fun _ => rfl
theorem adcA_C : Statement .adcA_C := fun _ => rfl
theorem adcA_D : Statement .adcA_D := fun _ => rfl
theorem adcA_E : Statement .adcA_E := fun _ => rfl
theorem adcA_H : Statement .adcA_H := fun _ => rfl
theorem adcA_L : Statement .adcA_L := fun _ => rfl
theorem adcA_IndHL : Statement .adcA_IndHL := fun _ => rfl
theorem adcA_A : Statement .adcA_A := fun _ => rfl
theorem subB : Statement .subB := fun _ => rfl
theorem subC : Statement .subC := fun _ => rfl
theorem subD : Statement .subD := fun _ => rfl
theorem subE : Statement .subE := fun _ => rfl
theorem subH : Statement .subH := fun _ => rfl
theorem subL : Statement .subL := fun _ => rfl
theorem subIndHL : Statement .subIndHL := fun _ => rfl
theorem subA : Statement .subA := fun _ => rfl
theorem sbcA_B : Statement .sbcA_B := fun _ => rfl
theorem sbcA_C : Statement .sbcA_C := fun _ => rfl
theorem sbcA_D : Statement .sbcA_D := fun _ => rfl
theorem sbcA_E : Statement .sbcA_E := fun _ => rfl
theorem sbcA_H : Statement .sbcA_H := fun _ => rfl
theorem sbcA_L : Statement .sbcA_L := fun _ => rfl
theorem sbcA_IndHL : Statement .sbcA_IndHL := fun _ => rfl
theorem sbcA_A : Statement .sbcA_A := fun _ => rfl
theorem andB : Statement .andB := fun _ => rfl
theorem andC : Statement .andC := fun _ => rfl
theorem andD : Statement .andD := fun _ => rfl
theorem andE : Statement .andE := fun _ => rfl
theorem andH : Statement .andH := fun _ => rfl
theorem andL : Statement .andL := fun _ => rfl
theorem andIndHL : Statement .andIndHL := fun _ => rfl
theorem andA : Statement .andA := fun _ => rfl
theorem xorB : Statement .xorB := fun _ => rfl
theorem xorC : Statement .xorC := fun _ => rfl
theorem xorD : Statement .xorD := fun _ => rfl
theorem xorE : Statement .xorE := fun _ => rfl
theorem xorH : Statement .xorH := fun _ => rfl
theorem xorL : Statement .xorL := fun _ => rfl
theorem xorIndHL : Statement .xorIndHL := fun _ => rfl
theorem xorA : Statement .xorA := fun _ => rfl
theorem orB : Statement .orB := fun _ => rfl
theorem orC : Statement .orC := fun _ => rfl
theorem orD : Statement .orD := fun _ => rfl
theorem orE : Statement .orE := fun _ => rfl
theorem orH : Statement .orH := fun _ => rfl
theorem orL : Statement .orL := fun _ => rfl
theorem orIndHL : Statement .orIndHL := fun _ => rfl
theorem orA : Statement .orA := fun _ => rfl
theorem cpB : Statement .cpB := fun _ => rfl
theorem cpC : Statement .cpC := fun _ => rfl
theorem cpD : Statement .cpD := fun _ => rfl
theorem cpE : Statement .cpE := fun _ => rfl
theorem cpH : Statement .cpH := fun _ => rfl
theorem cpL : Statement .cpL := fun _ => rfl
theorem cpIndHL : Statement .cpIndHL := fun _ => rfl
theorem cpA : Statement .cpA := fun _ => rfl
theorem retNZ : Statement .retNZ := fun _ => rfl
theorem popBC : Statement .popBC := fun _ => rfl
theorem jpNZ_nn (nn : Word) : Statement (.jpNZ_nn nn) := fun _ => rfl
theorem jp_nn (nn : Word) : Statement (.jp_nn nn) := fun _ => rfl
theorem callNZ_nn (nn : Word) : Statement (.callNZ_nn nn) := fun _ => rfl
theorem pushBC : Statement .pushBC := fun _ => rfl
theorem addA_n (n : Byte) : Statement (.addA_n n) := fun _ => rfl
theorem rst00 : Statement .rst00 := fun _ => rfl
theorem retZ : Statement .retZ := fun _ => rfl
theorem ret : Statement .ret := fun _ => rfl
theorem jpZ_nn (nn : Word) : Statement (.jpZ_nn nn) := fun _ => rfl
theorem prefixCB : Statement .prefixCB := fun h => nomatch h
theorem callZ_nn (nn : Word) : Statement (.callZ_nn nn) := fun _ => rfl
theorem call_nn (nn : Word) : Statement (.call_nn nn) := fun _ => rfl
theorem adcA_n (n : Byte) : Statement (.adcA_n n) := fun _ => rfl
theorem rst08 : Statement .rst08 := fun _ => rfl
theorem retNC : Statement .retNC := fun _ => rfl
theorem popDE : Statement .popDE := fun _ => rfl
theorem jpNC_nn (nn : Word) : Statement (.jpNC_nn nn) := fun _ => rfl
theorem undefD3 : Statement .undefD3 := fun _ => rfl
theorem callNC_nn (nn : Word) : Statement (.callNC_nn nn) := fun _ => rfl
theorem pushDE : Statement .pushDE := fun _ => rfl
theorem sub_n (n : Byte) : Statement (.sub_n n) := fun _ => rfl
theorem rst10 : Statement .rst10 := fun _ => rfl
theorem retC : Statement .retC := fun _ => rfl
theorem reti : Statement .reti := fun _ => rfl
theorem jpC_nn (nn : Word) : Statement (.jpC_nn nn) := fun _ => rfl
theorem undefDB : Statement .undefDB := fun _ => rfl
theorem callC_nn (nn : Word) : Statement (.callC_nn nn) := fun _ => rfl
theorem undefDD : Statement .undefDD := fun _ => rfl
theorem sbcA_n (n : Byte) : Statement (.sbcA_n n) := fun _ => rfl
theorem rst18 : Statement .rst18 := fun _ => rfl
theorem ldhIndN_A (n : Byte) : Statement (.ldhIndN_A n) := fun _ => rfl
theorem popHL : Statement .popHL := fun _ => rfl
theorem ldIndC_A : Statement .ldIndC_A := fun _ => rfl
theorem undefE3 : Statement .undefE3 := fun _ => rfl
theorem undefE4 : Statement .undefE4 := fun _ => rfl
theorem pushHL : Statement .pushHL := fun _ => rfl
theorem and_n (n : Byte) : Statement (.and_n n) := fun _ => rfl
theorem rst20 : Statement .rst20 := fun _ => rfl
theorem addSP_e (e : Byte) : Statement (.addSP_e e) := fun _ => rfl
theorem jpIndHL : Statement .jpIndHL := fun _ => rfl
theorem ldIndNN_A (nn : Word) : Statement (.ldIndNN_A nn) := fun _ => rfl
theorem undefEB : Statement .undefEB := fun _ => rfl
theorem undefEC : Statement .undefEC := fun _ => rfl
theorem undefED : Statement .undefED := fun _ => rfl
theorem xor_n (n : Byte) : Statement (.xor_n n) := fun _ => rfl
theorem rst28 : Statement .rst28 := fun _ => rfl
theorem ldhA_IndN (n : Byte) : Statement (.ldhA_IndN n) := fun _ => rfl
theorem popAF : Statement .popAF := fun _ => rfl
theorem ldA_IndC : Statement .ldA_IndC := fun _ => rfl
theorem di : Statement .di := fun _ => rfl
theorem undefF4 : Statement .undefF4 := fun _ => rfl
theorem pushAF : Statement .pushAF := fun _ => rfl
theorem or_n (n : Byte) : Statement (.or_n n) := fun _ => rfl
theorem rst30 : Statement .rst30 := fun _ => rfl
theorem ldHL_SPe (e : Byte) : Statement (.ldHL_SPe e) := fun _ => rfl
theorem ldSP_HL : Statement .ldSP_HL := fun _ => rfl
theorem ldA_IndNN (nn : Word) : Statement (.ldA_IndNN nn) := fun _ => rfl
theorem ei : Statement .ei := fun _ => rfl
theorem undefFC : Statement .undefFC := fun _ => rfl
theorem undefFD : Statement .undefFD := fun _ => rfl
theorem cp_n (n : Byte) : Statement (.cp_n n) := fun _ => rfl
theorem rst38 : Statement .rst38 := fun _ => rfl
theorem rlcB : Statement .rlcB := fun _ => rfl
theorem rlcC : Statement .rlcC := fun _ => rfl
theorem rlcD : Statement .rlcD := fun _ => rfl
theorem rlcE : Statement .rlcE := fun _ => rfl
theorem rlcH : Statement .rlcH := fun _ => rfl
theorem rlcL : Statement .rlcL := fun _ => rfl
theorem rlcIndHL : Statement .rlcIndHL := fun _ => rfl
theorem rlcA : Statement .rlcA := fun _ => rfl
theorem rrcB : Statement .rrcB := fun _ => rfl
theorem rrcC : Statement .rrcC := fun _ => rfl
theorem rrcD : Statement .rrcD := fun _ => rfl
theorem rrcE : Statement .rrcE := fun _ => rfl
theorem rrcH : Statement .rrcH := fun _ => rfl
theorem rrcL : Statement .rrcL := fun _ => rfl
theorem rrcIndHL : Statement .rrcIndHL := fun _ => rfl
theorem rrcA : Statement .rrcA := fun _ => rfl
theorem rlB : Statement .rlB := fun _ => rfl
theorem rlC : Statement .rlC := fun _ => rfl
theorem rlD : Statement .rlD := fun _ => rfl
theorem rlE : Statement .rlE := fun _ => rfl
theorem rlH : Statement .rlH := fun _ => rfl
theorem rlL : Statement .rlL := fun _ => rfl
theorem rlIndHL : Statement .rlIndHL := fun _ => rfl
theorem rlA : Statement .rlA := fun _ => rfl
theorem rrB : Statement .rrB := fun _ => rfl
theorem rrC : Statement .rrC := fun _ => rfl
theorem rrD : Statement .rrD := fun _ => rfl
theorem rrE : Statement .rrE := fun _ => rfl
theorem rrH : Statement .rrH := fun _ => rfl
theorem rrL : Statement .rrL := fun _ => rfl
theorem rrIndHL : Statement .rrIndHL := fun _ => rfl
theorem rrA : Statement .rrA := fun _ => rfl
theorem slaB : Statement .slaB := fun _ => rfl
theorem slaC : Statement .slaC := fun _ => rfl
theorem slaD : Statement .slaD := fun _ => rfl
theorem slaE : Statement .slaE := fun _ => rfl
theorem slaH : Statement .slaH := fun _ => rfl
theorem slaL : Statement .slaL := fun _ => rfl
theorem slaIndHL : Statement .slaIndHL := fun _ => rfl
theorem slaA : Statement .slaA := fun _ => rfl
theorem sraB : Statement .sraB := fun _ => rfl
theorem sraC : Statement .sraC := fun _ => rfl
theorem sraD : Statement .sraD := fun _ => rfl
theorem sraE : Statement .sraE := fun _ => rfl
theorem sraH : Statement .sraH := fun _ => rfl
theorem sraL : Statement .sraL := fun _ => rfl
theorem sraIndHL : Statement .sraIndHL := fun _ => rfl
theorem sraA : Statement .sraA := fun _ => rfl
theorem swapB : Statement .swapB := fun _ => rfl
theorem swapC : Statement .swapC := fun _ => rfl
theorem swapD : Statement .swapD := fun _ => rfl
theorem swapE : Statement .swapE := fun _ => rfl
theorem swapH : Statement .swapH := fun _ => rfl
theorem swapL : Statement .swapL := fun _ => rfl
theorem swapIndHL : Statement .swapIndHL := fun _ => rfl
theorem swapA : Statement .swapA := fun _ => rfl
theorem srlB : Statement .srlB := fun _ => rfl
theorem srlC : Statement .srlC := fun _ => rfl
theorem srlD : Statement .srlD := fun _ => rfl
theorem srlE : Statement .srlE := fun _ => rfl
theorem srlH : Statement .srlH := fun _ => rfl
theorem srlL : Statement .srlL := fun _ => rfl
theorem srlIndHL : Statement .srlIndHL := fun _ => rfl
theorem srlA : Statement .srlA := fun _ => rfl
theorem bit0_B : Statement .bit0_B := fun _ => rfl
theorem bit0_C : Statement .bit0_C := fun _ => rfl
theorem bit0_D : Statement .bit0_D := fun _ => rfl
theorem bit0_E : Statement .bit0_E := fun _ => rfl
theorem bit0_H : Statement .bit0_H := fun _ => rfl
theorem bit0_L : Statement .bit0_L := fun _ => rfl
theorem bit0_IndHL : Statement .bit0_IndHL := fun _ => rfl
theorem bit0_A : Statement .bit0_A := fun _ => rfl
theorem bit1_B : Statement .bit1_B := fun _ => rfl
theorem bit1_C : Statement .bit1_C := fun _ => rfl
theorem bit1_D : Statement .bit1_D := fun _ => rfl
theorem bit1_E : Statement .bit1_E := fun _ => rfl
theorem bit1_H : Statement .bit1_H := fun _ => rfl
theorem bit1_L : Statement .bit1_L := fun _ => rfl
theorem bit1_IndHL : Statement .bit1_IndHL := fun _ => rfl
theorem bit1_A : Statement .bit1_A := fun _ => rfl
theorem bit2_B : Statement .bit2_B := fun _ => rfl
theorem bit2_C : Statement .bit2_C := fun _ => rfl
theorem bit2_D : Statement .bit2_D := fun _ => rfl
theorem bit2_E : Statement .bit2_E := fun _ => rfl
theorem bit2_H : Statement .bit2_H := fun _ => rfl
theorem bit2_L : Statement .bit2_L := fun _ => rfl
theorem bit2_IndHL : Statement .bit2_IndHL := fun _ => rfl
theorem bit2_A : Statement .bit2_A := fun _ => rfl
theorem bit3_B : Statement .bit3_B := fun _ => rfl
theorem bit3_C : Statement .bit3_C := fun _ => rfl
theorem bit3_D : Statement .bit3_D := fun _ => rfl
theorem bit3_E : Statement .bit3_E := fun _ => rfl
theorem bit3_H : Statement .bit3_H := fun _ => rfl
theorem bit3_L : Statement .bit3_L := fun _ => rfl
theorem bit3_IndHL : Statement .bit3_IndHL := fun _ => rfl
theorem bit3_A : Statement .bit3_A := fun _ => rfl
theorem bit4_B : Statement .bit4_B := fun _ => rfl
theorem bit4_C : Statement .bit4_C := fun _ => rfl
theorem bit4_D : Statement .bit4_D := fun _ => rfl
theorem bit4_E : Statement .bit4_E := fun _ => rfl
theorem bit4_H : Statement .bit4_H := fun _ => rfl
theorem bit4_L : Statement .bit4_L := fun _ => rfl
theorem bit4_IndHL : Statement .bit4_IndHL := fun _ => rfl
theorem bit4_A : Statement .bit4_A := fun _ => rfl
theorem bit5_B : Statement .bit5_B := fun _ => rfl
theorem bit5_C : Statement .bit5_C := fun _ => rfl
theorem bit5_D : Statement .bit5_D := fun _ => rfl
theorem bit5_E : Statement .bit5_E := fun _ => rfl
theorem bit5_H : Statement .bit5_H := fun _ => rfl
theorem bit5_L : Statement .bit5_L := fun _ => rfl
theorem bit5_IndHL : Statement .bit5_IndHL := fun _ => rfl
theorem bit5_A : Statement .bit5_A := fun _ => rfl
theorem bit6_B : Statement .bit6_B := fun _ => rfl
theorem bit6_C : Statement .bit6_C := fun _ => rfl
theorem bit6_D : Statement .bit6_D := fun _ => rfl
theorem bit6_E : Statement .bit6_E := fun _ => rfl
theorem bit6_H : Statement .bit6_H := fun _ => rfl
theorem bit6_L : Statement .bit6_L := fun _ => rfl
theorem bit6_IndHL : Statement .bit6_IndHL := fun _ => rfl
theorem bit6_A : Statement .bit6_A := fun _ => rfl
theorem bit7_B : Statement .bit7_B := fun _ => rfl
theorem bit7_C : Statement .bit7_C := fun _ => rfl
theorem bit7_D : Statement .bit7_D := fun _ => rfl
theorem bit7_E : Statement .bit7_E := fun _ => rfl
theorem bit7_H : Statement .bit7_H := fun _ => rfl
theorem bit7_L : Statement .bit7_L := fun _ => rfl
theorem bit7_IndHL : Statement .bit7_IndHL := fun _ => rfl
theorem bit7_A : Statement .bit7_A := fun _ => rfl
theorem res0_B : Statement .res0_B := fun _ => rfl
theorem res0_C : Statement .res0_C := fun _ => rfl
theorem res0_D : Statement .res0_D := fun _ => rfl
theorem res0_E : Statement .res0_E := fun _ => rfl
theorem res0_H : Statement .res0_H := fun _ => rfl
theorem res0_L : Statement .res0_L := fun _ => rfl
theorem res0_IndHL : Statement .res0_IndHL := fun _ => rfl
theorem res0_A : Statement .res0_A := fun _ => rfl
theorem res1_B : Statement .res1_B := fun _ => rfl
theorem res1_C : Statement .res1_C := fun _ => rfl
theorem res1_D : Statement .res1_D := fun _ => rfl
theorem res1_E : Statement .res1_E := fun _ => rfl
theorem res1_H : Statement .res1_H := fun _ => rfl
theorem res1_L : Statement .res1_L := fun _ => rfl
theorem res1_IndHL : Statement .res1_IndHL := fun _ => rfl
theorem res1_A : Statement .res1_A := fun _ => rfl
theorem res2_B : Statement .res2_B := fun _ => rfl
theorem res2_C : Statement .res2_C := fun _ => rfl
theorem res2_D : Statement .res2_D := fun _ => rfl
theorem res2_E : Statement .res2_E := fun _ => rfl
theorem res2_H : Statement .res2_H := fun _ => rfl
theorem res2_L : Statement .res2_L := fun _ => rfl
theorem res2_IndHL : Statement .res2_IndHL := fun _ => rfl
theorem res2_A : Statement .res2_A := fun _ => rfl
theorem res3_B : Statement .res3_B := fun _ => rfl
theorem res3_C : Statement .res3_C := fun _ => rfl
theorem res3_D : Statement .res3_D := fun _ => rfl
theorem res3_E : Statement .res3_E := fun _ => rfl
theorem res3_H : Statement .res3_H := fun _ => rfl
theorem res3_L : Statement .res3_L := fun _ => rfl
theorem res3_IndHL : Statement .res3_IndHL := fun _ => rfl
theorem res3_A : Statement .res3_A := fun _ => rfl
theorem res4_B : Statement .res4_B := fun _ => rfl
theorem res4_C : Statement .res4_C := fun _ => rfl
theorem res4_D : Statement .res4_D := fun _ => rfl
theorem res4_E : Statement .res4_E := fun _ => rfl
theorem res4_H : Statement .res4_H := fun _ => rfl
theorem res4_L : Statement .res4_L := fun _ => rfl
theorem res4_IndHL : Statement .res4_IndHL := fun _ => rfl
theorem res4_A : Statement .res4_A := fun _ => rfl
theorem res5_B : Statement .res5_B := fun _ => rfl
theorem res5_C : Statement .res5_C := fun _ => rfl
theorem res5_D : Statement .res5_D := fun _ => rfl
theorem res5_E : Statement .res5_E := fun _ => rfl
theorem res5_H : Statement .res5_H := fun _ => rfl
theorem res5_L : Statement .res5_L := fun _ => rfl
theorem res5_IndHL : Statement .res5_IndHL := fun _ => rfl
theorem res5_A : Statement .res5_A := fun _ => rfl
theorem res6_B : Statement .res6_B := fun _ => rfl
theorem res6_C : Statement .res6_C := fun _ => rfl
theorem res6_D : Statement .res6_D := fun _ => rfl
theorem res6_E : Statement .res6_E := fun _ => rfl
theorem res6_H : Statement .res6_H := fun _ => rfl
theorem res6_L : Statement .res6_L := fun _ => rfl
theorem res6_IndHL : Statement .res6_IndHL := fun _ => rfl
theorem res6_A : Statement .res6_A := fun _ => rfl
theorem res7_B : Statement .res7_B := fun _ => rfl
theorem res7_C : Statement .res7_C := fun _ => rfl
theorem res7_D : Statement .res7_D := fun _ => rfl
theorem res7_E : Statement .res7_E := fun _ => rfl
theorem res7_H : Statement .res7_H := fun _ => rfl
theorem res7_L : Statement .res7_L := fun _ => rfl
theorem res7_IndHL : Statement .res7_IndHL := fun _ => rfl
theorem res7_A : Statement .res7_A := fun _ => rfl
theorem set0_B : Statement .set0_B := fun _ => rfl
theorem set0_C : Statement .set0_C := fun _ => rfl
theorem set0_D : Statement .set0_D := fun _ => rfl
theorem set0_E : Statement .set0_E := fun _ => rfl
theorem set0_H : Statement .set0_H := fun _ => rfl
theorem set0_L : Statement .set0_L := fun _ => rfl
theorem set0_IndHL : Statement .set0_IndHL := fun _ => rfl
theorem set0_A : Statement .set0_A := fun _ => rfl
theorem set1_B : Statement .set1_B := fun _ => rfl
theorem set1_C : Statement .set1_C := fun _ => rfl
theorem set1_D : Statement .set1_D := fun _ => rfl
theorem set1_E : Statement .set1_E := fun _ => rfl
theorem set1_H : Statement .set1_H := fun _ => rfl
theorem set1_L : Statement .set1_L := fun _ => rfl
theorem set1_IndHL : Statement .set1_IndHL := fun _ => rfl
theorem set1_A : Statement .set1_A := fun _ => rfl
theorem set2_B : Statement .set2_B := fun _ => rfl
theorem set2_C : Statement .set2_C := fun _ => rfl
theorem set2_D : Statement .set2_D := fun _ => rfl
theorem set2_E : Statement .set2_E := fun _ => rfl
theorem set2_H : Statement .set2_H := fun _ => rfl
theorem set2_L : Statement .set2_L := fun _ => rfl
theorem set2_IndHL : Statement .set2_IndHL := fun _ => rfl
theorem set2_A : Statement .set2_A := fun _ => rfl
theorem set3_B : Statement .set3_B := fun _ => rfl
theorem set3_C : Statement .set3_C := fun _ => rfl
theorem set3_D : Statement .set3_D := fun _ => rfl
theorem set3_E : Statement .set3_E := fun _ => rfl
theorem set3_H : Statement .set3_H := fun _ => rfl
theorem set3_L : Statement .set3_L := fun _ => rfl
theorem set3_IndHL : Statement .set3_IndHL := fun _ => rfl
theorem set3_A : Statement .set3_A := fun _ => rfl
theorem set4_B : Statement .set4_B := fun _ => rfl
theorem set4_C : Statement .set4_C := fun _ => rfl
theorem set4_D : Statement .set4_D := fun _ => rfl
theorem set4_E : Statement .set4_E := fun _ => rfl
theorem set4_H : Statement .set4_H := fun _ => rfl
theorem set4_L : Statement .set4_L := fun _ => rfl
theorem set4_IndHL : Statement .set4_IndHL := fun _ => rfl
theorem set4_A : Statement .set4_A := fun _ => rfl
theorem set5_B : Statement .set5_B := fun _ => rfl
theorem set5_C : Statement .set5_C := fun _ => rfl
theorem set5_D : Statement .set5_D := fun _ => rfl
theorem set5_E : Statement .set5_E := fun _ => rfl
theorem set5_H : Statement .set5_H := fun _ => rfl
theorem set5_L : Statement .set5_L := fun _ => rfl
theorem set5_IndHL : Statement .set5_IndHL := fun _ => rfl
theorem set5_A : Statement .set5_A := fun _ => rfl
theorem set6_B : Statement .set6_B := fun _ => rfl
theorem set6_C : Statement .set6_C := fun _ => rfl
theorem set6_D : Statement .set6_D := fun _ => rfl
theorem set6_E : Statement .set6_E := fun _ => rfl
theorem set6_H : Statement .set6_H := fun _ => rfl
theorem set6_L : Statement .set6_L := fun _ => rfl
theorem set6_IndHL : Statement .set6_IndHL := fun _ => rfl
theorem set6_A : Statement .set6_A := fun _ => rfl
theorem set7_B : Statement .set7_B := fun _ => rfl
theorem set7_C : Statement .set7_C := fun _ => rfl
theorem set7_D : Statement .set7_D := fun _ => rfl
theorem set7_E : Statement .set7_E := fun _ => rfl
theorem set7_H : Statement .set7_H := fun _ => rfl
theorem set7_L : Statement .set7_L := fun _ => rfl
theorem set7_IndHL : Statement .set7_IndHL := fun _ => rfl
theorem set7_A : Statement .set7_A := fun _ => rfl

end Sys2Proof.Laws.EncodedLength
end

