-- ==== Sys2Proof/Laws/Step.lean ====
section
/-! SUPPORT. Everything a step can do, said once: the fetch succeeds and the instruction at PC runs, or a byte of the
instruction lies above 0xFFFF and the step faults. Proofs about steps cite `step_eq` and never unfold `fetch` or `decode`. -/

namespace Sys2Proof.Machine

/-- How many bytes the fetch reads at PC (R65). -/
def State.fetchLength (s : State) : Nat := (baseEntry (s.readByte s.pc)).format.fetched

/-- The instruction at PC, where all its bytes lie inside memory. -/
def State.instrAt (s : State) : Instr :=
  match baseEntry (s.readByte s.pc) with
  | .op i => i
  | .opPad i => i
  | .opN8 build => build s.second
  | .opE8 build => build s.second
  | .opN16 build => build s.imm16
  | .pre => extendedEntry s.second

theorem Format.fetched_pos (f : Format) : 1 ≤ f.fetched ∧ f.fetched ≤ 3 := by cases f <;> decide

/-- The whole fetch: the bytes in ascending order, or BoundsViolation(0x10000) (R65, R66). -/
theorem fetch_eq (s : State) :
    fetch s = if s.pc.toNat + s.fetchLength ≤ 0x10000 then
      .ok (s.readByte s.pc :: (List.range' (s.pc.toNat + 1) (s.fetchLength - 1)).map s.mem.read)
    else .error (.boundsViolation 0x10000) := by
  have hpc := s.pc.isLt
  have hf : 1 ≤ s.fetchLength ∧ s.fetchLength ≤ 3 := Format.fetched_pos _
  have e : (s.pc.toNat : Int) + 1 = ((s.pc.toNat + 1 : Nat) : Int) := by omega
  unfold fetch
  rw [e]
  change (match fetchFrom s ((s.pc.toNat + 1 : Nat) : Int) (s.fetchLength - 1) with
    | .error f => Except.error f
    | .ok rest => .ok (s.readByte s.pc :: rest)) = _
  split
  · next f hx =>
    split
    · next hle => rw [fetchFrom_ok _ _ _ (by omega)] at hx; exact absurd hx (by simp)
    · next hgt => rw [fetchFrom_fault _ _ _ (by omega) (by omega)] at hx; exact hx.symm
  · next rest hx =>
    split
    · next hle => rw [fetchFrom_ok _ _ _ (by omega)] at hx; injection hx with hx; rw [hx]
    · next hgt => rw [fetchFrom_fault _ _ _ (by omega) (by omega)] at hx; exact absurd hx (by simp)

theorem State.second_eq (s : State) (h : s.pc.toNat < 0xFFFF) : s.second = s.mem.read (s.pc.toNat + 1) := by
  unfold State.second State.readByte
  congr 1
  simp only [BitVec.toNat_add, BitVec.toNat_ofNat]
  omega

theorem State.imm16_eq (s : State) (h : s.pc.toNat < 0xFFFE) :
    s.imm16 = wordOf (s.mem.read (s.pc.toNat + 2)) (s.mem.read (s.pc.toNat + 1)) := by
  have h1 : (s.pc + 1#16).toNat = s.pc.toNat + 1 := by simp only [BitVec.toNat_add, BitVec.toNat_ofNat]; omega
  have h2 : (s.pc + 2#16).toNat = s.pc.toNat + 2 := by simp only [BitVec.toNat_add, BitVec.toNat_ofNat]; omega
  unfold State.imm16 State.readByte
  rw [h1, h2]

/-- The whole step (R280): exec of the instruction at PC, or BoundsViolation(0x10000). -/
theorem step_eq (s : State) :
    step s = if s.pc.toNat + s.fetchLength ≤ 0x10000 then exec s.instrAt s else .fault (.boundsViolation 0x10000) := by
  unfold step
  rw [fetch_eq]
  by_cases hle : s.pc.toNat + s.fetchLength ≤ 0x10000
  · simp only [if_pos hle]
    unfold State.fetchLength at hle ⊢
    unfold State.instrAt
    generalize hb : baseEntry (s.readByte s.pc) = b at hle
    cases b <;> simp only [BaseEntry.format, Format.fetched] at hle ⊢ <;>
      simp only [decode, hb, List.range'_succ, List.range'_zero, List.map_cons, List.map_nil, Nat.reduceSub]
    · rw [State.second_eq s (by omega)]
    · rw [State.second_eq s (by omega)]
    · rw [State.imm16_eq s (by omega)]
    · rw [State.second_eq s (by omega)]
  · simp only [if_neg hle]

/-- A step answers exec of the instruction at PC, or the fetch fault. -/
theorem step_cases (s : State) : step s = exec s.instrAt s ∨ step s = .fault (.boundsViolation 0x10000) := by
  rw [step_eq]
  split
  · exact .inl rfl
  · exact .inr rfl

/-- A completed step ran the instruction at PC. -/
theorem step_next {s t : State} (h : step s = .next t) : exec s.instrAt s = .next t := by
  rcases step_cases s with h' | h'
  · rw [← h', h]
  · rw [h'] at h; exact absurd h (by simp)

end Sys2Proof.Machine
end

