-- ==== Sys2Proof/Tests/Slice0.lean ====
section
/-! SUPPORT. The model's own tests: the well-formedness smoke test, the decoding of every row of the opcode table from its
word, steps checked against the vectors of spec/95_test_vectors.md (V<n>, start states as that file's notation says), and a
witness for the hypotheses of each statement. -/

namespace Sys2Proof.Tests

open Sys2Proof Sys2Proof.Machine

/-! ### Helpers -/

/-- The start state of the vectors: the reset state with PC = 0x0100. -/
def start : State := { State.reset with pc := 0x0100#16 }

/-- The state with these bytes at PC. -/
def code (bytes : List Byte) (s : State) : State := s.storeAtPc bytes

/-- The state with one more byte of memory. -/
def poke (addr : Nat) (v : Byte) (s : State) : State := { s with mem := s.mem.write addr v }

/-- The outcome is a next state with the property. -/
def after (r : Result) (p : State → Bool) : Bool :=
  match r with
  | .next t => p t
  | .fault _ => false
  | .refused _ => false

/-- The outcome is exactly this next state. -/
def gives (r : Result) (t : State) : Bool := after r (fun u => decide (u = t))

/-- The outcome is BoundsViolation with this address. -/
def violates (r : Result) (addr : Int) : Bool :=
  match r with
  | .next _ => false
  | .fault (.boundsViolation x) => decide (x = addr)
  | .refused _ => false

/-- Five flags in the order of the vectors, ZCSHP. -/
def zcshp (z c s h p : Bool) : Flags := { fZ := z, fC := c, fS := s, fH := h, fP := p }

/-! ### Well-formedness: the one check and a term it refuses -/

theorem test_wellFormed_refuses_the_bare_prefix : Instr.wellFormed .prefixCB = false := rfl

theorem test_wellFormed_accepts_extended : Instr.wellFormed .rlcB = true := rfl

/-! ### Decoding: words written bit by bit from the encoding lines of the rules -/

/-- 01 yyy zzz, y = 0 B, z = 1 C, R111; 01 110 zzz, z = 7 A, R114. -/
theorem test_bits_load_8bit : decode [0b01000001#8] = .ok (.ldB_C, []) ∧ decode [0b01110111#8] = .ok (.ldIndHL_A, []) := ⟨rfl, rfl⟩

/-- 10 011 zzz, z = 4 H, R170; OR (HL), R180. -/
theorem test_bits_alu : decode [0b10011100#8] = .ok (.sbcA_H, []) ∧ decode [0b10110110#8] = .ok (.orIndHL, []) := ⟨rfl, rfl⟩

/-- 00 yyy 100, y = 4 H, R185; 00 yyy 101, y = 7 A, R187. -/
theorem test_bits_inc_dec : decode [0b00100100#8] = .ok (.incH, []) ∧ decode [0b00111101#8] = .ok (.decA, []) := ⟨rfl, rfl⟩

/-- 00 pp1 001, p = 1 DE, R211; 00 pp1 011, p = 3 SP, R213. -/
theorem test_bits_pairs : decode [0b00011001#8] = .ok (.addHL_DE, []) ∧ decode [0b00111011#8] = .ok (.decSP, []) := ⟨rfl, rfl⟩

/-- 11 pp0 101, p = 2 HL, R145; 0xF1, R148. -/
theorem test_bits_stack : decode [0b11100101#8] = .ok (.pushHL, []) ∧ decode [0b11110001#8] = .ok (.popAF, []) := ⟨rfl, rfl⟩

/-- 11 0cc 000, cc = 3 C, R269; 11 ttt 111, t = 5, R271. -/
theorem test_bits_transfer : decode [0b11011000#8] = .ok (.retC, []) ∧ decode [0b11101111#8] = .ok (.rst28, []) := ⟨rfl, rfl⟩

/-- `01 pp 0001` with a 16-bit immediate, low byte first: LD SP,0xFFFE (R141); `11 0cc 010` JP NC,nn (R262); `00 1cc 000` JR C,e
(R265). -/
theorem test_bits_immediates :
    decode [0b00110001#8, 0xFE#8, 0xFF#8] = .ok (.ldSP_nn 0xFFFE#16, []) ∧
    decode [0b11010010#8, 0x34#8, 0x12#8] = .ok (.jpNC_nn 0x1234#16, []) ∧
    decode [0b00111000#8, 0x10#8, 0x76#8] = .ok (.jrC_e 0x10#8, [0x76#8]) := ⟨rfl, rfl, rfl⟩

/-- CB `00 110 zzz` SWAP, `01 bbb zzz` BIT, `10 bbb zzz` RES, `11 bbb zzz` SET (R237, R251, R254, R255). -/
theorem test_bits_extended :
    decode [0xCB#8, 0b00110111#8] = .ok (.swapA, []) ∧ decode [0xCB#8, 0b01100101#8] = .ok (.bit4_L, []) ∧
    decode [0xCB#8, 0b10011110#8] = .ok (.res3_IndHL, []) ∧ decode [0xCB#8, 0b11001011#8] = .ok (.set1_E, []) :=
  ⟨rfl, rfl, rfl, rfl⟩

/-- Missing bytes, not byte values, are what the decoder refuses (R83). -/
theorem test_decode_refuses_missing_bytes :
    decode [] = .error .noOpcode ∧ decode [0x06#8] = .error (.missingImmediate 0x06#8) ∧
    decode [0xC3#8, 0x00#8] = .error (.missingImmediate 0xC3#8) := ⟨rfl, rfl, rfl⟩

/-! ### Decoding: every row of the table, the grids of R95 and R97 row by row, immediates zero -/

/-- The sixteen instructions of a grid row as the decoder reads them from the words `first`, `first + 1`, … -/
def row (nbits first : Nat) : List (Option Instr) := (List.range 16).map (fun k => decodeTableWord nbits (first + k))

theorem test_decode_base_row_0 : row 8 0x00 =
    [some .nop, some (.ldBC_nn 0), some .ldIndBC_A, some .incBC, some .incB, some .decB, some (.ldB_n 0),
       some .rlca, some (.ldIndNN_SP 0), some .addHL_BC, some .ldA_IndBC, some .decBC, some .incC, some
       .decC, some (.ldC_n 0), some .rrca] := rfl

theorem test_decode_base_row_1 : row 8 0x10 =
    [some .stop, some (.ldDE_nn 0), some .ldIndDE_A, some .incDE, some .incD, some .decD, some (.ldD_n 0),
       some .rla, some (.jr_e 0), some .addHL_DE, some .ldA_IndDE, some .decDE, some .incE, some .decE, some
       (.ldE_n 0), some .rra] := rfl

theorem test_decode_base_row_2 : row 8 0x20 =
    [some (.jrNZ_e 0), some (.ldHL_nn 0), some .ldIndHLInc_A, some .incHL, some .incH, some .decH, some
       (.ldH_n 0), some .daa, some (.jrZ_e 0), some .addHL_HL, some .ldA_IndHLInc, some .decHL, some .incL,
       some .decL, some (.ldL_n 0), some .cpl] := rfl

theorem test_decode_base_row_3 : row 8 0x30 =
    [some (.jrNC_e 0), some (.ldSP_nn 0), some .ldIndHLDec_A, some .incSP, some .incIndHL, some .decIndHL,
       some (.ldIndHL_n 0), some .scf, some (.jrC_e 0), some .addHL_SP, some .ldA_IndHLDec, some .decSP,
       some .incA, some .decA, some (.ldA_n 0), some .ccf] := rfl

theorem test_decode_base_row_4 : row 8 0x40 =
    [some .ldB_B, some .ldB_C, some .ldB_D, some .ldB_E, some .ldB_H, some .ldB_L, some .ldB_IndHL, some
       .ldB_A, some .ldC_B, some .ldC_C, some .ldC_D, some .ldC_E, some .ldC_H, some .ldC_L, some
       .ldC_IndHL, some .ldC_A] := rfl

theorem test_decode_base_row_5 : row 8 0x50 =
    [some .ldD_B, some .ldD_C, some .ldD_D, some .ldD_E, some .ldD_H, some .ldD_L, some .ldD_IndHL, some
       .ldD_A, some .ldE_B, some .ldE_C, some .ldE_D, some .ldE_E, some .ldE_H, some .ldE_L, some
       .ldE_IndHL, some .ldE_A] := rfl

theorem test_decode_base_row_6 : row 8 0x60 =
    [some .ldH_B, some .ldH_C, some .ldH_D, some .ldH_E, some .ldH_H, some .ldH_L, some .ldH_IndHL, some
       .ldH_A, some .ldL_B, some .ldL_C, some .ldL_D, some .ldL_E, some .ldL_H, some .ldL_L, some
       .ldL_IndHL, some .ldL_A] := rfl

theorem test_decode_base_row_7 : row 8 0x70 =
    [some .ldIndHL_B, some .ldIndHL_C, some .ldIndHL_D, some .ldIndHL_E, some .ldIndHL_H, some .ldIndHL_L,
       some .halt, some .ldIndHL_A, some .ldA_B, some .ldA_C, some .ldA_D, some .ldA_E, some .ldA_H, some
       .ldA_L, some .ldA_IndHL, some .ldA_A] := rfl

theorem test_decode_base_row_8 : row 8 0x80 =
    [some .addA_B, some .addA_C, some .addA_D, some .addA_E, some .addA_H, some .addA_L, some .addA_IndHL,
       some .addA_A, some .adcA_B, some .adcA_C, some .adcA_D, some .adcA_E, some .adcA_H, some .adcA_L,
       some .adcA_IndHL, some .adcA_A] := rfl

theorem test_decode_base_row_9 : row 8 0x90 =
    [some .subB, some .subC, some .subD, some .subE, some .subH, some .subL, some .subIndHL, some .subA,
       some .sbcA_B, some .sbcA_C, some .sbcA_D, some .sbcA_E, some .sbcA_H, some .sbcA_L, some .sbcA_IndHL,
       some .sbcA_A] := rfl

theorem test_decode_base_row_A : row 8 0xA0 =
    [some .andB, some .andC, some .andD, some .andE, some .andH, some .andL, some .andIndHL, some .andA,
       some .xorB, some .xorC, some .xorD, some .xorE, some .xorH, some .xorL, some .xorIndHL, some .xorA] := rfl

theorem test_decode_base_row_B : row 8 0xB0 =
    [some .orB, some .orC, some .orD, some .orE, some .orH, some .orL, some .orIndHL, some .orA, some .cpB,
       some .cpC, some .cpD, some .cpE, some .cpH, some .cpL, some .cpIndHL, some .cpA] := rfl

theorem test_decode_base_row_C : row 8 0xC0 =
    [some .retNZ, some .popBC, some (.jpNZ_nn 0), some (.jp_nn 0), some (.callNZ_nn 0), some .pushBC, some
       (.addA_n 0), some .rst00, some .retZ, some .ret, some (.jpZ_nn 0), some .prefixCB, some (.callZ_nn
       0), some (.call_nn 0), some (.adcA_n 0), some .rst08] := rfl

theorem test_decode_base_row_D : row 8 0xD0 =
    [some .retNC, some .popDE, some (.jpNC_nn 0), some .undefD3, some (.callNC_nn 0), some .pushDE, some
       (.sub_n 0), some .rst10, some .retC, some .reti, some (.jpC_nn 0), some .undefDB, some (.callC_nn 0),
       some .undefDD, some (.sbcA_n 0), some .rst18] := rfl

theorem test_decode_base_row_E : row 8 0xE0 =
    [some (.ldhIndN_A 0), some .popHL, some .ldIndC_A, some .undefE3, some .undefE4, some .pushHL, some
       (.and_n 0), some .rst20, some (.addSP_e 0), some .jpIndHL, some (.ldIndNN_A 0), some .undefEB, some
       .undefEC, some .undefED, some (.xor_n 0), some .rst28] := rfl

theorem test_decode_base_row_F : row 8 0xF0 =
    [some (.ldhA_IndN 0), some .popAF, some .ldA_IndC, some .di, some .undefF4, some .pushAF, some (.or_n
       0), some .rst30, some (.ldHL_SPe 0), some .ldSP_HL, some (.ldA_IndNN 0), some .ei, some .undefFC,
       some .undefFD, some (.cp_n 0), some .rst38] := rfl

theorem test_decode_extended_row_0 : row 16 0xCB00 =
    [some .rlcB, some .rlcC, some .rlcD, some .rlcE, some .rlcH, some .rlcL, some .rlcIndHL, some .rlcA,
       some .rrcB, some .rrcC, some .rrcD, some .rrcE, some .rrcH, some .rrcL, some .rrcIndHL, some .rrcA] := rfl

theorem test_decode_extended_row_1 : row 16 0xCB10 =
    [some .rlB, some .rlC, some .rlD, some .rlE, some .rlH, some .rlL, some .rlIndHL, some .rlA, some .rrB,
       some .rrC, some .rrD, some .rrE, some .rrH, some .rrL, some .rrIndHL, some .rrA] := rfl

theorem test_decode_extended_row_2 : row 16 0xCB20 =
    [some .slaB, some .slaC, some .slaD, some .slaE, some .slaH, some .slaL, some .slaIndHL, some .slaA,
       some .sraB, some .sraC, some .sraD, some .sraE, some .sraH, some .sraL, some .sraIndHL, some .sraA] := rfl

theorem test_decode_extended_row_3 : row 16 0xCB30 =
    [some .swapB, some .swapC, some .swapD, some .swapE, some .swapH, some .swapL, some .swapIndHL, some
       .swapA, some .srlB, some .srlC, some .srlD, some .srlE, some .srlH, some .srlL, some .srlIndHL, some
       .srlA] := rfl

theorem test_decode_extended_row_4 : row 16 0xCB40 =
    [some .bit0_B, some .bit0_C, some .bit0_D, some .bit0_E, some .bit0_H, some .bit0_L, some .bit0_IndHL,
       some .bit0_A, some .bit1_B, some .bit1_C, some .bit1_D, some .bit1_E, some .bit1_H, some .bit1_L,
       some .bit1_IndHL, some .bit1_A] := rfl

theorem test_decode_extended_row_5 : row 16 0xCB50 =
    [some .bit2_B, some .bit2_C, some .bit2_D, some .bit2_E, some .bit2_H, some .bit2_L, some .bit2_IndHL,
       some .bit2_A, some .bit3_B, some .bit3_C, some .bit3_D, some .bit3_E, some .bit3_H, some .bit3_L,
       some .bit3_IndHL, some .bit3_A] := rfl

theorem test_decode_extended_row_6 : row 16 0xCB60 =
    [some .bit4_B, some .bit4_C, some .bit4_D, some .bit4_E, some .bit4_H, some .bit4_L, some .bit4_IndHL,
       some .bit4_A, some .bit5_B, some .bit5_C, some .bit5_D, some .bit5_E, some .bit5_H, some .bit5_L,
       some .bit5_IndHL, some .bit5_A] := rfl

theorem test_decode_extended_row_7 : row 16 0xCB70 =
    [some .bit6_B, some .bit6_C, some .bit6_D, some .bit6_E, some .bit6_H, some .bit6_L, some .bit6_IndHL,
       some .bit6_A, some .bit7_B, some .bit7_C, some .bit7_D, some .bit7_E, some .bit7_H, some .bit7_L,
       some .bit7_IndHL, some .bit7_A] := rfl

theorem test_decode_extended_row_8 : row 16 0xCB80 =
    [some .res0_B, some .res0_C, some .res0_D, some .res0_E, some .res0_H, some .res0_L, some .res0_IndHL,
       some .res0_A, some .res1_B, some .res1_C, some .res1_D, some .res1_E, some .res1_H, some .res1_L,
       some .res1_IndHL, some .res1_A] := rfl

theorem test_decode_extended_row_9 : row 16 0xCB90 =
    [some .res2_B, some .res2_C, some .res2_D, some .res2_E, some .res2_H, some .res2_L, some .res2_IndHL,
       some .res2_A, some .res3_B, some .res3_C, some .res3_D, some .res3_E, some .res3_H, some .res3_L,
       some .res3_IndHL, some .res3_A] := rfl

theorem test_decode_extended_row_A : row 16 0xCBA0 =
    [some .res4_B, some .res4_C, some .res4_D, some .res4_E, some .res4_H, some .res4_L, some .res4_IndHL,
       some .res4_A, some .res5_B, some .res5_C, some .res5_D, some .res5_E, some .res5_H, some .res5_L,
       some .res5_IndHL, some .res5_A] := rfl

theorem test_decode_extended_row_B : row 16 0xCBB0 =
    [some .res6_B, some .res6_C, some .res6_D, some .res6_E, some .res6_H, some .res6_L, some .res6_IndHL,
       some .res6_A, some .res7_B, some .res7_C, some .res7_D, some .res7_E, some .res7_H, some .res7_L,
       some .res7_IndHL, some .res7_A] := rfl

theorem test_decode_extended_row_C : row 16 0xCBC0 =
    [some .set0_B, some .set0_C, some .set0_D, some .set0_E, some .set0_H, some .set0_L, some .set0_IndHL,
       some .set0_A, some .set1_B, some .set1_C, some .set1_D, some .set1_E, some .set1_H, some .set1_L,
       some .set1_IndHL, some .set1_A] := rfl

theorem test_decode_extended_row_D : row 16 0xCBD0 =
    [some .set2_B, some .set2_C, some .set2_D, some .set2_E, some .set2_H, some .set2_L, some .set2_IndHL,
       some .set2_A, some .set3_B, some .set3_C, some .set3_D, some .set3_E, some .set3_H, some .set3_L,
       some .set3_IndHL, some .set3_A] := rfl

theorem test_decode_extended_row_E : row 16 0xCBE0 =
    [some .set4_B, some .set4_C, some .set4_D, some .set4_E, some .set4_H, some .set4_L, some .set4_IndHL,
       some .set4_A, some .set5_B, some .set5_C, some .set5_D, some .set5_E, some .set5_H, some .set5_L,
       some .set5_IndHL, some .set5_A] := rfl

theorem test_decode_extended_row_F : row 16 0xCBF0 =
    [some .set6_B, some .set6_C, some .set6_D, some .set6_E, some .set6_H, some .set6_L, some .set6_IndHL,
       some .set6_A, some .set7_B, some .set7_C, some .set7_D, some .set7_E, some .set7_H, some .set7_L,
       some .set7_IndHL, some .set7_A] := rfl

/-! ### Lengths: the counts of R96 -/

theorem test_length_counts :
    (lengthGrid.map (fun r => r.count 1)).sum = 212 ∧ (lengthGrid.map (fun r => r.count 2)).sum = 27 ∧
    (lengthGrid.map (fun r => r.count 3)).sum = 17 := by decide

/-! ### Steps: vectors of spec/95_test_vectors.md, the whole next state or the fault -/

/-- V1, `LD B,A`. -/
theorem test_V1 :
    let s := code [0x47#8] { start with a := 0x5A#8 }
    gives (step s) { s with b := 0x5A#8, flags := zcshp false false false false false, pc := 0x0101#16 } = true := by decide

/-- V3, `LD H,L`. -/
theorem test_V3 :
    let s := code [0x65#8] { start with h := 0x12#8, l := 0x34#8 }
    gives (step s) { s with h := 0x34#8, flags := zcshp false false false false false, pc := 0x0101#16 } = true := by decide

/-- V7, `LD A,n at top`. -/
theorem test_V7 :
    let s := code [0x3E#8] { start with pc := 0xFFFF#16 }
    violates (step s) (0x10000) = true := by decide

/-- V9, `LD H,(HL)`. -/
theorem test_V9 :
    let s := code [0x66#8] (poke 0xC000 0x80#8 { start with h := 0xC0#8, l := 0x00#8 })
    gives (step s) { s with h := 0x80#8, flags := zcshp false false false false false, pc := 0x0101#16 } = true := by decide

/-- V11, `LD (HL),L`. -/
theorem test_V11 :
    let s := code [0x75#8] { start with h := 0xC0#8, l := 0xDE#8 }
    gives (step s) { s with flags := zcshp false false false false false, pc := 0x0101#16, mem := s.mem.write 0xC0DE 0xDE#8 } = true := by decide

/-- V12, `LD (HL),0x99`. -/
theorem test_V12 :
    let s := code [0x36#8, 0x99#8] { start with h := 0xFF#8, l := 0xFF#8 }
    gives (step s) { s with flags := zcshp false false false false false, pc := 0x0102#16, mem := s.mem.write 0xFFFF 0x99#8 } = true := by decide

/-- V16, `LD (BC),A`. -/
theorem test_V16 :
    let s := code [0x02#8] { start with b := 0xFF#8, c := 0xFF#8, a := 0x7E#8 }
    gives (step s) { s with flags := zcshp false false false false false, pc := 0x0101#16, mem := s.mem.write 0xFFFF 0x7E#8 } = true := by decide

/-- V20, `LD (nn),A at FFFE`. -/
theorem test_V20 :
    let s := code [0xEA#8, 0x00#8] { start with pc := 0xFFFE#16, a := 0xA5#8 }
    violates (step s) (0x10000) = true := by decide

/-- V22, `LDH A,(0x80)`. -/
theorem test_V22 :
    let s := code [0xF0#8, 0x80#8] (poke 0xFF80 0x42#8 start)
    gives (step s) { s with a := 0x42#8, flags := zcshp false false false false false, pc := 0x0102#16 } = true := by decide

/-- V26, `LD (C),A`. -/
theorem test_V26 :
    let s := code [0xE2#8] { start with c := 0x00#8, a := 0x33#8 }
    gives (step s) { s with flags := zcshp false false false false false, pc := 0x0101#16, mem := s.mem.write 0xFF00 0x33#8 } = true := by decide

/-- V28, `LD (HL+),A wrap`. -/
theorem test_V28 :
    let s := code [0x22#8] { start with h := 0xFF#8, l := 0xFF#8, a := 0x0D#8 }
    gives (step s) { s with h := 0x00#8, l := 0x00#8, flags := zcshp false false false false false, pc := 0x0101#16, mem := s.mem.write 0xFFFF 0x0D#8 } = true := by decide

/-- V31, `LD (HL-),A wrap`. -/
theorem test_V31 :
    let s := code [0x32#8] { start with h := 0x00#8, l := 0x00#8, a := 0x0E#8 }
    gives (step s) { s with h := 0xFF#8, l := 0xFF#8, flags := zcshp false false false false false, pc := 0x0101#16, mem := s.mem.write 0x0000 0x0E#8 } = true := by decide

/-- V36, `LD SP,0xFFFE`. -/
theorem test_V36 :
    let s := code [0x31#8, 0xFE#8, 0xFF#8] start
    gives (step s) { s with sp := 0xFFFE#16, flags := zcshp false false false false false, pc := 0x0103#16 } = true := by decide

/-- V38, `LD (0xC100),SP`. -/
theorem test_V38 :
    let s := code [0x08#8, 0x00#8, 0xC1#8] { start with sp := 0xFFF8#16 }
    gives (step s) { s with flags := zcshp false false false false false, pc := 0x0103#16, mem := (s.mem.write 0xC100 0xF8#8).write 0xC101 0xFF#8 } = true := by decide

/-- V39, `LD (0xFFFF),SP`. -/
theorem test_V39 :
    let s := code [0x08#8, 0xFF#8, 0xFF#8] { start with sp := 0x1234#16 }
    violates (step s) (0x10000) = true := by decide

/-- V41, `LD HL,SP+2`. -/
theorem test_V41 :
    let s := code [0xF8#8, 0x02#8] { start with sp := 0xFFF8#16, flags := zcshp true false true false false }
    gives (step s) { s with h := 0xFF#8, l := 0xFA#8, flags := zcshp false false false false false, pc := 0x0102#16 } = true := by decide

/-- V43, `LD HL,SP+1`. -/
theorem test_V43 :
    let s := code [0xF8#8, 0x01#8] { start with sp := 0x00FF#16 }
    gives (step s) { s with h := 0x01#8, flags := zcshp false true false true false, pc := 0x0102#16 } = true := by decide

/-- V47, `PUSH DE`. -/
theorem test_V47 :
    let s := code [0xD5#8] { start with d := 0xBE#8, e := 0xEF#8, sp := 0x0002#16 }
    gives (step s) { s with sp := 0x0000#16, flags := zcshp false false false false false, pc := 0x0101#16, mem := (s.mem.write 0x0000 0xEF#8).write 0x0001 0xBE#8 } = true := by decide

/-- V50, `PUSH BC, SP=0`. -/
theorem test_V50 :
    let s := code [0xC5#8] { start with b := 0x12#8, c := 0x34#8, sp := 0x0000#16 }
    violates (step s) (-1) = true := by decide

/-- V52, `PUSH AF all flags`. -/
theorem test_V52 :
    let s := code [0xF5#8] { start with a := 0xFF#8, sp := 0xD000#16, flags := zcshp true true true true true }
    gives (step s) { s with sp := 0xCFFE#16, flags := zcshp true true true true true, pc := 0x0101#16, mem := (s.mem.write 0xCFFE 0xBC#8).write 0xCFFF 0xFF#8 } = true := by decide

/-- V53, `POP DE`. -/
theorem test_V53 :
    let s := code [0xD1#8] (poke 0xFFFD 0x12#8 (poke 0xFFFC 0x34#8 { start with sp := 0xFFFC#16 }))
    gives (step s) { s with d := 0x12#8, e := 0x34#8, sp := 0xFFFE#16, flags := zcshp false false false false false, pc := 0x0101#16 } = true := by decide

/-- V54, `POP HL, SP=FFFE`. -/
theorem test_V54 :
    let s := code [0xE1#8] (poke 0xFFFF 0xAB#8 (poke 0xFFFE 0xCD#8 { start with sp := 0xFFFE#16 }))
    gives (step s) { s with h := 0xAB#8, l := 0xCD#8, sp := 0x0000#16, flags := zcshp false false false false false, pc := 0x0101#16 } = true := by decide

/-- V59, `ADD A,A`. -/
theorem test_V59 :
    let s := code [0x87#8] { start with a := 0x80#8 }
    gives (step s) { s with a := 0x00#8, flags := zcshp true true false false true, pc := 0x0101#16 } = true := by decide

/-- V60, `ADD A,B`. -/
theorem test_V60 :
    let s := code [0x80#8] { start with a := 0x3A#8, b := 0xC6#8 }
    gives (step s) { s with a := 0x00#8, flags := zcshp true true false true true, pc := 0x0101#16 } = true := by decide

/-- V67, `ADC A,E`. -/
theorem test_V67 :
    let s := code [0x8B#8] { start with a := 0xE1#8, e := 0x0F#8, flags := zcshp false true false false false }
    gives (step s) { s with a := 0xF1#8, flags := zcshp false false true true false, pc := 0x0101#16 } = true := by decide

/-- V68, `ADC A,B`. -/
theorem test_V68 :
    let s := code [0x88#8] { start with a := 0xFF#8, b := 0x00#8, flags := zcshp false true false false false }
    gives (step s) { s with a := 0x00#8, flags := zcshp true true false true true, pc := 0x0101#16 } = true := by decide

/-- V73, `SUB E`. -/
theorem test_V73 :
    let s := code [0x93#8] { start with a := 0x3E#8, e := 0x3E#8 }
    gives (step s) { s with a := 0x00#8, flags := zcshp true false false false true, pc := 0x0101#16 } = true := by decide

/-- V74, `SUB A`. -/
theorem test_V74 :
    let s := code [0x97#8] { start with a := 0x5D#8, flags := zcshp false true false true false }
    gives (step s) { s with a := 0x00#8, flags := zcshp true false false false true, pc := 0x0101#16 } = true := by decide

/-- V79, `SBC A,H`. -/
theorem test_V79 :
    let s := code [0x9C#8] { start with a := 0x3B#8, h := 0x2A#8, flags := zcshp false true false false false }
    gives (step s) { s with a := 0x10#8, flags := zcshp false false false false true, pc := 0x0101#16 } = true := by decide

/-- V80, `SBC A,B borrow chain`. -/
theorem test_V80 :
    let s := code [0x98#8] { start with a := 0x00#8, b := 0xFF#8, flags := zcshp false true false false false }
    gives (step s) { s with flags := zcshp true true false true true, pc := 0x0101#16 } = true := by decide

/-- V86, `AND L`. -/
theorem test_V86 :
    let s := code [0xA5#8] { start with a := 0x5A#8, l := 0x3F#8 }
    gives (step s) { s with a := 0x1A#8, flags := zcshp false false false true true, pc := 0x0101#16 } = true := by decide

/-- V91, `XOR A`. -/
theorem test_V91 :
    let s := code [0xAF#8] { start with a := 0xFF#8, flags := zcshp false true true true false }
    gives (step s) { s with a := 0x00#8, flags := zcshp true false false false true, pc := 0x0101#16 } = true := by decide

/-- V96, `OR A`. -/
theorem test_V96 :
    let s := code [0xB7#8] { start with a := 0x5A#8, flags := zcshp false true false true false }
    gives (step s) { s with flags := zcshp false false false false true, pc := 0x0101#16 } = true := by decide

/-- V100, `CP B`. -/
theorem test_V100 :
    let s := code [0xB8#8] { start with a := 0x3C#8, b := 0x2F#8 }
    gives (step s) { s with flags := zcshp false false false true false, pc := 0x0101#16 } = true := by decide

/-- V101, `CP A`. -/
theorem test_V101 :
    let s := code [0xBF#8] { start with a := 0x3C#8 }
    gives (step s) { s with a := 0x3C#8, flags := zcshp true false false false true, pc := 0x0101#16 } = true := by decide

/-- V105, `INC A`. -/
theorem test_V105 :
    let s := code [0x3C#8] { start with a := 0xFF#8, flags := zcshp false true false false false }
    gives (step s) { s with a := 0x00#8, flags := zcshp true true false true true, pc := 0x0101#16 } = true := by decide

/-- V106, `INC B`. -/
theorem test_V106 :
    let s := code [0x04#8] { start with b := 0x0F#8 }
    gives (step s) { s with b := 0x10#8, flags := zcshp false false false true true, pc := 0x0101#16 } = true := by decide

/-- V111, `DEC L`. -/
theorem test_V111 :
    let s := code [0x2D#8] { start with l := 0x01#8 }
    gives (step s) { s with l := 0x00#8, flags := zcshp true false false false true, pc := 0x0101#16 } = true := by decide

/-- V112, `DEC B`. -/
theorem test_V112 :
    let s := code [0x05#8] { start with b := 0x00#8, flags := zcshp false true false false false }
    gives (step s) { s with b := 0xFF#8, flags := zcshp false true true true false, pc := 0x0101#16 } = true := by decide

/-- V117, `DAA`. -/
theorem test_V117 :
    let s := code [0x27#8] { start with a := 0x12#8, flags := zcshp false false false true false }
    gives (step s) { s with a := 0x18#8, flags := zcshp false false false false true, pc := 0x0101#16 } = true := by decide

/-- V118, `DAA`. -/
theorem test_V118 :
    let s := code [0x27#8] { start with a := 0x7D#8 }
    gives (step s) { s with a := 0x83#8, flags := zcshp false false true false false, pc := 0x0101#16 } = true := by decide

/-- V126, `CPL`. -/
theorem test_V126 :
    let s := code [0x2F#8] { start with a := 0x35#8, flags := zcshp true true false false false }
    gives (step s) { s with a := 0xCA#8, flags := zcshp true true false true false, pc := 0x0101#16 } = true := by decide

/-- V128, `SCF`. -/
theorem test_V128 :
    let s := code [0x37#8] { start with flags := zcshp true false false true false }
    gives (step s) { s with flags := zcshp true true false false false, pc := 0x0101#16 } = true := by decide

/-- V130, `CCF`. -/
theorem test_V130 :
    let s := code [0x3F#8] { start with flags := zcshp false true false true false }
    gives (step s) { s with flags := zcshp false false false false false, pc := 0x0101#16 } = true := by decide

/-- V153, `RLCA`. -/
theorem test_V153 :
    let s := code [0x07#8] { start with a := 0x85#8, flags := zcshp true false true true true }
    gives (step s) { s with a := 0x0B#8, flags := zcshp false true false false false, pc := 0x0101#16 } = true := by decide

/-- V155, `RRCA`. -/
theorem test_V155 :
    let s := code [0x0F#8] { start with a := 0x3B#8 }
    gives (step s) { s with a := 0x9D#8, flags := zcshp false true false false false, pc := 0x0101#16 } = true := by decide

/-- V157, `RLA`. -/
theorem test_V157 :
    let s := code [0x17#8] { start with a := 0x95#8, flags := zcshp false true false false false }
    gives (step s) { s with a := 0x2B#8, flags := zcshp false true false false false, pc := 0x0101#16 } = true := by decide

/-- V159, `RRA`. -/
theorem test_V159 :
    let s := code [0x1F#8] { start with a := 0x81#8 }
    gives (step s) { s with a := 0x40#8, flags := zcshp false true false false false, pc := 0x0101#16 } = true := by decide

/-- V161, `RLC B`. -/
theorem test_V161 :
    let s := code [0xCB#8, 0x00#8] { start with b := 0x85#8 }
    gives (step s) { s with b := 0x0B#8, flags := zcshp false true false false false, pc := 0x0102#16 } = true := by decide

/-- V164, `RRC C`. -/
theorem test_V164 :
    let s := code [0xCB#8, 0x09#8] { start with c := 0x01#8 }
    gives (step s) { s with c := 0x80#8, flags := zcshp false true true false true, pc := 0x0102#16 } = true := by decide

/-- V166, `RL L`. -/
theorem test_V166 :
    let s := code [0xCB#8, 0x15#8] { start with l := 0x80#8 }
    gives (step s) { s with l := 0x00#8, flags := zcshp true true false false true, pc := 0x0102#16 } = true := by decide

/-- V169, `RR A`. -/
theorem test_V169 :
    let s := code [0xCB#8, 0x1F#8] { start with a := 0x01#8 }
    gives (step s) { s with a := 0x00#8, flags := zcshp true true false false true, pc := 0x0102#16 } = true := by decide

/-- V172, `SLA D`. -/
theorem test_V172 :
    let s := code [0xCB#8, 0x22#8] { start with d := 0x80#8 }
    gives (step s) { s with d := 0x00#8, flags := zcshp true true false false true, pc := 0x0102#16 } = true := by decide

/-- V175, `SRA A`. -/
theorem test_V175 :
    let s := code [0xCB#8, 0x2F#8] { start with a := 0x8A#8 }
    gives (step s) { s with a := 0xC5#8, flags := zcshp false false true false false, pc := 0x0102#16 } = true := by decide

/-- V178, `SWAP A`. -/
theorem test_V178 :
    let s := code [0xCB#8, 0x37#8] { start with a := 0xF1#8, flags := zcshp false true false true false }
    gives (step s) { s with a := 0x1F#8, flags := zcshp false false false false false, pc := 0x0102#16 } = true := by decide

/-- V181, `SRL A`. -/
theorem test_V181 :
    let s := code [0xCB#8, 0x3F#8] { start with a := 0x01#8 }
    gives (step s) { s with a := 0x00#8, flags := zcshp true true false false true, pc := 0x0102#16 } = true := by decide

/-- V185, `BIT 7,A`. -/
theorem test_V185 :
    let s := code [0xCB#8, 0x7F#8] { start with a := 0x80#8, flags := zcshp false true false false false }
    gives (step s) { s with flags := zcshp false true true true true, pc := 0x0102#16 } = true := by decide

/-- V186, `BIT 7,A`. -/
theorem test_V186 :
    let s := code [0xCB#8, 0x7F#8] { start with a := 0x7F#8 }
    gives (step s) { s with flags := zcshp true false false true true, pc := 0x0102#16 } = true := by decide

/-- V194, `RES 7,A`. -/
theorem test_V194 :
    let s := code [0xCB#8, 0xBF#8] { start with a := 0x80#8, flags := zcshp false true true false false }
    gives (step s) { s with a := 0x00#8, flags := zcshp false true true false false, pc := 0x0102#16 } = true := by decide

/-- V195, `RES 0,B`. -/
theorem test_V195 :
    let s := code [0xCB#8, 0x80#8] { start with b := 0xFF#8 }
    gives (step s) { s with b := 0xFE#8, flags := zcshp false false false false false, pc := 0x0102#16 } = true := by decide

/-- V199, `SET 3,A`. -/
theorem test_V199 :
    let s := code [0xCB#8, 0xDF#8] { start with a := 0x80#8 }
    gives (step s) { s with a := 0x88#8, flags := zcshp false false false false false, pc := 0x0102#16 } = true := by decide

/-- V200, `SET 7,L`. -/
theorem test_V200 :
    let s := code [0xCB#8, 0xFD#8] { start with l := 0x3B#8, flags := zcshp true false false false false }
    gives (step s) { s with l := 0xBB#8, flags := zcshp true false false false false, pc := 0x0102#16 } = true := by decide

/-- V205, `JP 0x8000`. -/
theorem test_V205 :
    let s := code [0xC3#8, 0x00#8, 0x80#8] start
    gives (step s) { s with flags := zcshp false false false false false, pc := 0x8000#16 } = true := by decide

/-- V215, `JR +5`. -/
theorem test_V215 :
    let s := code [0x18#8, 0x05#8] start
    gives (step s) { s with flags := zcshp false false false false false, pc := 0x0107#16 } = true := by decide

/-- V216, `JR -2 (to itself)`. -/
theorem test_V216 :
    let s := code [0x18#8, 0xFE#8] start
    gives (step s) { s with flags := zcshp false false false false false, pc := 0x0100#16 } = true := by decide

/-- V227, `CALL 0xABCD`. -/
theorem test_V227 :
    let s := code [0xCD#8, 0xCD#8, 0xAB#8] { start with pc := 0x0200#16, sp := 0xFFFE#16 }
    gives (step s) { s with sp := 0xFFFC#16, flags := zcshp false false false false false, pc := 0xABCD#16, mem := (s.mem.write 0xFFFC 0x03#8).write 0xFFFD 0x02#8 } = true := by decide

/-- V228, `CALL nn, SP=2`. -/
theorem test_V228 :
    let s := code [0xCD#8, 0xCD#8, 0xAB#8] { start with pc := 0x0200#16, sp := 0x0002#16 }
    gives (step s) { s with sp := 0x0000#16, flags := zcshp false false false false false, pc := 0xABCD#16, mem := (s.mem.write 0x0000 0x03#8).write 0x0001 0x02#8 } = true := by decide

/-- V238, `RET`. -/
theorem test_V238 :
    let s := code [0xC9#8] (poke 0xFFFD 0x02#8 (poke 0xFFFC 0x03#8 { start with pc := 0xABCD#16, sp := 0xFFFC#16 }))
    gives (step s) { s with sp := 0xFFFE#16, flags := zcshp false false false false false, pc := 0x0203#16 } = true := by decide

/-- V239, `RET, SP=FFFE`. -/
theorem test_V239 :
    let s := code [0xC9#8] (poke 0xFFFF 0x12#8 (poke 0xFFFE 0x34#8 { start with sp := 0xFFFE#16 }))
    gives (step s) { s with sp := 0x0000#16, flags := zcshp false false false false false, pc := 0x1234#16 } = true := by decide

/-- V247, `RETI`. -/
theorem test_V247 :
    let s := code [0xD9#8] (poke 0xCFFF 0x01#8 (poke 0xCFFE 0x53#8 { start with pc := 0x0040#16, sp := 0xCFFE#16 }))
    gives (step s) { s with sp := 0xD000#16, flags := zcshp false false false false false, pc := 0x0153#16 } = true := by decide

/-- V248, `RST 0x00`. -/
theorem test_V248 :
    let s := code [0xC7#8] { start with pc := 0x0150#16, sp := 0xD000#16 }
    gives (step s) { s with sp := 0xCFFE#16, flags := zcshp false false false false false, pc := 0x0000#16, mem := (s.mem.write 0xCFFE 0x51#8).write 0xCFFF 0x01#8 } = true := by decide

/-- V249, `RST 0x08`. -/
theorem test_V249 :
    let s := code [0xCF#8] { start with pc := 0x0150#16, sp := 0xD000#16 }
    gives (step s) { s with sp := 0xCFFE#16, flags := zcshp false false false false false, pc := 0x0008#16, mem := (s.mem.write 0xCFFE 0x51#8).write 0xCFFF 0x01#8 } = true := by decide

/-- V258, `NOP`. -/
theorem test_V258 :
    let s := code [0x00#8] start
    gives (step s) { s with flags := zcshp false false false false false, pc := 0x0101#16 } = true := by decide

/-- V260, `HALT`. -/
theorem test_V260 :
    let s := code [0x76#8] start
    gives (step s) { s with flags := zcshp false false false false false, halted := 1, pc := 0x0101#16 } = true := by decide

/-- V262, `STOP`. -/
theorem test_V262 :
    let s := code [0x10#8, 0x00#8] start
    gives (step s) { s with flags := zcshp false false false false false, pc := 0x0102#16 } = true := by decide

/-- V265, `DI`. -/
theorem test_V265 :
    let s := code [0xF3#8] { start with flags := zcshp true true false false false }
    gives (step s) { s with flags := zcshp true true false false false, pc := 0x0101#16 } = true := by decide

/-- V266, `EI`. -/
theorem test_V266 :
    let s := code [0xFB#8] start
    gives (step s) { s with flags := zcshp false false false false false, pc := 0x0101#16 } = true := by decide

/-- V267, `UNDEF_D3`. -/
theorem test_V267 :
    let s := code [0xD3#8, 0xFF#8, 0xFF#8] { start with a := 0x12#8, sp := 0xD000#16, flags := zcshp true true false false false }
    gives (step s) { s with flags := zcshp true true false false false, pc := 0x0101#16 } = true := by decide

/-- V268, `UNDEF_DB`. -/
theorem test_V268 :
    let s := code [0xDB#8, 0xFF#8, 0xFF#8] { start with a := 0x12#8, sp := 0xD000#16, flags := zcshp true true false false false }
    gives (step s) { s with flags := zcshp true true false false false, pc := 0x0101#16 } = true := by decide

/-- V269, `UNDEF_DD`. -/
theorem test_V269 :
    let s := code [0xDD#8, 0xFF#8, 0xFF#8] { start with a := 0x12#8, sp := 0xD000#16, flags := zcshp true true false false false }
    gives (step s) { s with flags := zcshp true true false false false, pc := 0x0101#16 } = true := by decide

/-- V270, `UNDEF_E3`. -/
theorem test_V270 :
    let s := code [0xE3#8, 0xFF#8, 0xFF#8] { start with a := 0x12#8, sp := 0xD000#16, flags := zcshp true true false false false }
    gives (step s) { s with flags := zcshp true true false false false, pc := 0x0101#16 } = true := by decide

/-- V271, `UNDEF_E4`. -/
theorem test_V271 :
    let s := code [0xE4#8, 0xFF#8, 0xFF#8] { start with a := 0x12#8, sp := 0xD000#16, flags := zcshp true true false false false }
    gives (step s) { s with flags := zcshp true true false false false, pc := 0x0101#16 } = true := by decide

/-- V272, `UNDEF_EB`. -/
theorem test_V272 :
    let s := code [0xEB#8, 0xFF#8, 0xFF#8] { start with a := 0x12#8, sp := 0xD000#16, flags := zcshp true true false false false }
    gives (step s) { s with flags := zcshp true true false false false, pc := 0x0101#16 } = true := by decide

/-- V273, `UNDEF_EC`. -/
theorem test_V273 :
    let s := code [0xEC#8, 0xFF#8, 0xFF#8] { start with a := 0x12#8, sp := 0xD000#16, flags := zcshp true true false false false }
    gives (step s) { s with flags := zcshp true true false false false, pc := 0x0101#16 } = true := by decide

/-- V274, `UNDEF_ED`. -/
theorem test_V274 :
    let s := code [0xED#8, 0xFF#8, 0xFF#8] { start with a := 0x12#8, sp := 0xD000#16, flags := zcshp true true false false false }
    gives (step s) { s with flags := zcshp true true false false false, pc := 0x0101#16 } = true := by decide

/-- V275, `UNDEF_F4`. -/
theorem test_V275 :
    let s := code [0xF4#8, 0xFF#8, 0xFF#8] { start with a := 0x12#8, sp := 0xD000#16, flags := zcshp true true false false false }
    gives (step s) { s with flags := zcshp true true false false false, pc := 0x0101#16 } = true := by decide

/-- V276, `UNDEF_FC`. -/
theorem test_V276 :
    let s := code [0xFC#8, 0xFF#8, 0xFF#8] { start with a := 0x12#8, sp := 0xD000#16, flags := zcshp true true false false false }
    gives (step s) { s with flags := zcshp true true false false false, pc := 0x0101#16 } = true := by decide

/-- V277, `UNDEF_FD`. -/
theorem test_V277 :
    let s := code [0xFD#8, 0xFF#8, 0xFF#8] { start with a := 0x12#8, sp := 0xD000#16, flags := zcshp true true false false false }
    gives (step s) { s with flags := zcshp true true false false false, pc := 0x0101#16 } = true := by decide

/-- V279, `PREFIX CB at top`. -/
theorem test_V279 :
    let s := code [0xCB#8] { start with pc := 0xFFFF#16 }
    violates (step s) (0x10000) = true := by decide

/-! ### Witnesses: states and operands that meet the hypotheses of the statements, at the boundaries of their ranges -/

theorem witness_DecodeInvertsEncode :
    Instr.wellFormed (.jp_nn 0x1234#16) = true := rfl

theorem witness_EncodeInvertsDecode :
    decode [0x41#8] = .ok (.ldB_C, []) ∧ Instr.ldB_C ≠ .stop ∧ decode [0x10#8, 0xFF#8, 0x00#8] = .ok (.stop, [0x00#8]) ∧
    decode [0x10#8] = .ok (.stop, []) := ⟨rfl, by decide, rfl, rfl⟩

theorem witness_LengthsFollowTheLengthTable :
    decode [0x10#8, 0xFF#8, 0x00#8] = .ok (.stop, [0x00#8]) ∧ decode [0x01#8, 0x34#8, 0x12#8] = .ok (.ldBC_nn 0x1234#16, []) := ⟨rfl, rfl⟩

theorem witness_DisassemblerAgreesWithTheExecutor_fits :
    (0xFFFF#16 : Word).toNat + opLength (Memory.read [] (0xFFFF#16 : Word).toNat) ≤ 0x10000 := by decide

theorem witness_DisassemblerAgreesWithTheExecutor_step :
    disassemble start.mem start.pc = some ("NOP", 1) ∧ opcodeTransfers start.opcode = false ∧
    after (step start) (fun _ => true) = true := ⟨rfl, by decide, by decide⟩

theorem witness_PrefixDispatchesToTheExtendedTable :
    (0xFFFE#16 : Word).toNat < 0xFFFF ∧ (0xFFFF#16 : Word).toNat = 0xFFFF ∧ (code [0xCB#8, 0x37#8] start).opcode = 0xCB := by decide

theorem witness_StepRunsTheDecodedInstruction_whole :
    decode (code [0x06#8, 0x42#8] start).bytesAtPc = .ok (.ldB_n 0x42#8, [0x00#8]) ∧ Instr.wellFormed (.ldB_n 0x42#8) = true := ⟨rfl, rfl⟩

theorem witness_StepRunsTheDecodedInstruction_prefix :
    decode (code [0xCB#8] { start with pc := 0xFFFF#16 }).bytesAtPc = .ok (.prefixCB, []) ∧ Instr.wellFormed .prefixCB = false := ⟨rfl, rfl⟩

theorem witness_StepRunsTheDecodedInstruction_missing :
    decode (code [0xC3#8, 0x00#8] { start with pc := 0xFFFE#16 }).bytesAtPc = .error (.missingImmediate 0xC3#8) := rfl

theorem witness_StepHasNoOtherException :
    2 ≤ ({ start with sp := 0x0002#16 } : State).sp.toNat ∧ Instr.undefFD ∈ ([.undefD3, .undefFD] : List Instr) := by decide

theorem witness_StepFaultsExactlyAsTheCauseTableSays_fetch2 :
    faultAddress (code [0x06#8] { start with pc := 0xFFFF#16 }) = some 0x10000 := by decide

theorem witness_StepFaultsExactlyAsTheCauseTableSays_fetch3 :
    faultAddress (code [0xDA#8] { start with pc := 0xFFFE#16 }) = some 0x10000 := by decide

theorem witness_StepFaultsExactlyAsTheCauseTableSays_store :
    faultAddress (code [0x08#8, 0xFF#8, 0xFF#8] start) = some 0x10000 := by decide

theorem witness_StepFaultsExactlyAsTheCauseTableSays_pop :
    faultAddress (code [0xC9#8] { start with sp := 0xFFFF#16 }) = some 0x10000 := by decide

theorem witness_StepFaultsExactlyAsTheCauseTableSays_push :
    faultAddress (code [0xC5#8] { start with sp := 0x0001#16 }) = some (-1) := by decide

theorem witness_StepFaultsExactlyAsTheCauseTableSays_none :
    faultAddress (code [0xC5#8] { start with sp := 0x0002#16 }) = none := by decide

theorem witness_EveryStepKeepsTheMemoryForm :
    Memory.wf (code [0x77#8] { start with a := 0x42#8, h := 0xC0#8 }).mem ∧
    after (step (code [0x77#8] { start with a := 0x42#8, h := 0xC0#8 })) (fun t => decide (t.mem.read 0xC000 = 0x42#8)) = true := by decide

theorem witness_OnlyHaltSetsTheLatch :
    after (step (code [0x76#8] start)) (fun t => t.halted) = true := by decide

theorem witness_SignAndParityReachOnlyPushAf :
    (code [0x17#8] start).opcode ≠ 0xF5 := by decide

theorem witness_FlagsChangeAsTheFlagTableSays :
    after (step (code [0x2F#8] start)) (fun t => t.flags.fH) = true := by decide

theorem witness_RegistersChangeOnlyWhereWritten :
    after (step (code [0x04#8] start)) (fun _ => true) = true ∧ opcodeWritesReg 0x04 0 .c = false ∧ opcodeWritesReg 0x04 0 .b = true := by decide

theorem witness_StackPointerChangesOnlyWhereWritten_kept :
    after (step (code [0x04#8] start)) (fun _ => true) = true ∧ opcodeWritesSp 0x04 start.flags = false := by decide

theorem witness_StackPointerChangesOnlyWhereWritten_push :
    let s := code [0xCC#8, 0x00#8, 0x30#8] { start with sp := 0x0002#16, flags := zcshp true false false false false }
    after (step s) (fun _ => true) = true ∧ opcodePushes s.opcode s.flags = true := by decide

theorem witness_StackPointerChangesOnlyWhereWritten_pop :
    let s := code [0xD9#8] { start with sp := 0xFFFE#16 }
    after (step s) (fun _ => true) = true ∧ opcodePops s.opcode s.flags = true := by decide

theorem witness_PcAdvancesByTheLength :
    after (step (code [0x10#8] { start with pc := 0xFFFF#16 })) (fun t => decide (t.pc = 0x0001#16)) = true ∧
    opcodeTransfers 0x10 = false := by decide

theorem witness_MemoryChangesOnlyWhereStored :
    let s := code [0xC5#8] { start with sp := 0x0002#16 }
    after (step s) (fun _ => true) = true ∧ 2 ∉ storedAddresses s ∧ 0 ∈ storedAddresses s := by decide

theorem witness_NextFetchSeesTheStore :
    let s := code [0x36#8, 0x76#8] { start with h := 0x01#8, l := 0x02#8 }
    s.opcode = 0x36 ∧ s.pc.toNat ≠ 0xFFFF ∧ s.hl = s.pc + 2#16 := by decide

theorem witness_CanonicalMemoriesThatReadAlikeAreEqual :
    Memory.wf [(0x0001, 0x12#8), (0xFFFF, 0x34#8)] ∧ ∀ addr : Nat, Memory.read [(0x0001, 0x12#8), (0xFFFF, 0x34#8)] addr =
    Memory.read [(0x0001, 0x12#8), (0xFFFF, 0x34#8)] addr := ⟨by decide, fun _ => rfl⟩

theorem witness_StoreOfSpIsLowByteFirst :
    (0xFFFE#16 : Word).toNat < 0xFFFF ∧ (0xFFFF#16 : Word).toNat = 0xFFFF := by decide

theorem witness_PushAndPopOfPairs :
    2 ≤ (2#16 : Word).toNat ∧ (1#16 : Word).toNat < 2 ∧ (0xFFFE#16 : Word).toNat < 0xFFFF ∧ (0xFFFF#16 : Word).toNat = 0xFFFF := by decide

theorem witness_PushAndPopOfAf :
    2 ≤ ({ start with sp := 0x0002#16 } : State).sp.toNat ∧ start.sp.toNat < 2 ∧
    ({ start with sp := 0xFFFE#16 } : State).sp.toNat < 0xFFFF ∧ ({ start with sp := 0xFFFF#16 } : State).sp.toNat = 0xFFFF := by decide

theorem witness_StackRoundTripsRestore :
    2 ≤ ({ start with sp := 0x0002#16 } : State).sp.toNat ∧ takenWhen .nz start.flags = true := by decide

theorem witness_StackRoundTripsRestore_packing :
    flagPacking.Lawful := by
  rintro ⟨_ | _, _ | _, _ | _, _ | _, _ | _⟩ <;> decide

theorem witness_SubtractionsAndComparisons :
    start.b = start.reg .b ∧ (0x00#8 : Byte) = start.mem.read start.hl.toNat ∧ (0x05#8 : Byte) = 0x05#8 := by decide

theorem witness_DecimalAdditionIsCorrected :
    (99 : Nat) < 100 ∧ (0 : Nat) < 100 ∧ ({ start with a := 0x99#8 } : State).a = bcd 99 := by decide

theorem witness_AbsoluteJumps :
    let s := code [0xC3#8] { start with pc := 0xFFFE#16 }
    let u := code [0xDA#8] { start with pc := 0xFFFF#16 }
    s.opcode = 0xC3 ∧ s.pc.toNat ≥ 0xFFFE ∧ u.opcode = 0xDA ∧ u.pc.toNat ≥ 0xFFFE := by decide

theorem witness_CallsAndRestarts :
    2 ≤ ({ start with sp := 0x0002#16 } : State).sp.toNat ∧ takenWhen .nz start.flags = true ∧ takenWhen .c start.flags = false ∧
    ({ start with sp := 0x0001#16 } : State).sp.toNat < 2 := by decide

theorem witness_Returns :
    ({ start with sp := 0xFFFE#16 } : State).sp.toNat < 0xFFFF ∧ takenWhen .nc start.flags = true ∧ takenWhen .z start.flags = false ∧
    ({ start with sp := 0xFFFF#16 } : State).sp.toNat = 0xFFFF := by decide

theorem witness_InstructionsThatOnlyAdvancePc :
    Instr.undefFD ∈ ([.nop, .undefFD] : List Instr) ∧ (code [0x10#8] { start with pc := 0xFFFF#16 }).opcode = 0x10 := by decide

theorem witness_LoadMemoryCopiesOrRefuses_fits :
    (0 : Int) ≤ 0xFFFF ∧ (0xFFFF : Int) + ([0x76#8] : List Byte).length ≤ 65536 ∧ Memory.wf start.mem ∧
    after (start.loadMemory [0x76#8] 0xFFFF) (fun t => decide (t.mem.read 0xFFFF = 0x76#8)) = true := by decide

theorem witness_LoadMemoryCopiesOrRefuses_refused :
    (-1 : Int) < 0 ∧ (0xFFFF : Int) + ([0x76#8, 0x00#8] : List Byte).length > 65536 := by decide

theorem witness_LoadMemoryCopiesOrRefuses_launch :
    after (launch [⟨[0x3E#8, 0x42#8], 0⟩, ⟨[0x76#8], 2⟩]) (fun t => decide (t.mem.read 2 = 0x76#8)) = true := by decide

theorem witness_RunsEndAtTheFirstHalt_halted :
    start.halted = false ∧ runToHalt 2 (code [0x00#8, 0x76#8] start) =
    .halted { code [0x00#8, 0x76#8] start with pc := 0x0102#16, halted := true } := by decide

theorem witness_RunsEndAtTheFirstHalt_first :
    let s := code [0x00#8, 0x76#8, 0x76#8] start
    let u : State := { s with pc := 0x0101#16 }
    stateAfter 0 s = some s ∧ stateAfter 1 s = some u ∧ s.halted = false ∧ u.halted = false ∧ u.opcode = 0x76 ∧
    runToHalt 9 s = .halted { u with pc := 0x0102#16, halted := true } := by decide

theorem witness_RunsEndAtTheFirstHalt_faulted :
    runToHalt 1 (code [0xC5#8] start) = .faulted (.boundsViolation (-1)) := by decide

end Sys2Proof.Tests
end

section
/-! SUPPORT. Where each shared operation leaves PC, and that none of them refuses: one lemma for each, stated in one form,
so that a proof about every instruction only says which operation its meaning is. -/

namespace Sys2Proof.Machine

/-- The outcomes an instruction of `len` bytes may have at `s`: no refusal, and a next state whose PC lies behind those
bytes, unless the instruction is a control transfer (R12, R23). -/
inductive FollowsPc (transfers : Bool) (len : Nat) (s : State) : Result → Prop
  | next {t : State} (h : transfers = false → t.pc = s.pc + BitVec.ofNat 16 len) : FollowsPc transfers len s (.next t)
  | fault (f : Fault) : FollowsPc transfers len s (.fault f)

theorem FollowsPc.ne_refused {tr : Bool} {len : Nat} {s : State} {r : Result} (h : FollowsPc tr len s r) (x : Refusal) :
    r ≠ .refused x := by
  cases h <;> simp

theorem FollowsPc.pc_next {len : Nat} {s t : State} : FollowsPc false len s (.next t) → t.pc = s.pc + BitVec.ofNat 16 len
  | .next h => h rfl

/-- A control transfer that completes may leave any PC. -/
theorem followsPc_transfer (len : Nat) (s t : State) : FollowsPc true len s (.next t) := .next nofun

theorem followsPc_advance (tr : Bool) (len : Nat) {s u : State} (h : u.pc = s.pc) :
    FollowsPc tr len s (.next (u.advance len)) := .next fun _ => by rw [State.pc_advance, h]

@[simp] theorem State.pc_writeOperand (s : State) (o : Operand8) (v : Byte) : (s.writeOperand o v).pc = s.pc := by
  cases o with
  | reg r => exact State.pc_setReg s r v
  | indHL => rfl

section
variable (tr : Bool) (s : State)

/-! ### Operations that only move past the instruction -/

theorem followsPc_loadReg (r : Reg8) (v : Byte) (len : Nat) : FollowsPc tr len s (loadReg r v len s) :=
  followsPc_advance tr len (State.pc_setReg s r v)

theorem followsPc_storeByte (addr : Word) (v : Byte) (len : Nat) : FollowsPc tr len s (storeByte addr v len s) :=
  followsPc_advance tr len rfl

theorem followsPc_storeAtHLThen (w : Word) : FollowsPc tr 1 s (storeAtHLThen w s) := followsPc_advance tr 1 rfl

theorem followsPc_loadAtHLThen (w : Word) : FollowsPc tr 1 s (loadAtHLThen w s) := followsPc_advance tr 1 rfl

theorem followsPc_loadPair (p : Pair) (w : Word) (len : Nat) : FollowsPc tr len s (loadPair p w len s) :=
  followsPc_advance tr len (State.pc_setPair s p w)

theorem followsPc_addToSp (p : Pair) (e : Byte) : FollowsPc tr 2 s (addToSp p e s) := followsPc_advance tr 2 (by simp)

theorem followsPc_addToHL (p : Pair) : FollowsPc tr 1 s (addToHL p s) := followsPc_advance tr 1 rfl

theorem followsPc_stepPair (p : Pair) (w : Word) : FollowsPc tr 1 s (stepPair p w s) :=
  followsPc_advance tr 1 (State.pc_setPair s p w)

theorem followsPc_aluStep (op : AluOp) (src : Source8) : FollowsPc tr (sourceLength src) s (aluStep op src s) :=
  followsPc_advance tr _ rfl

theorem followsPc_incOperand (o : Operand8) : FollowsPc tr 1 s (incOperand o s) := followsPc_advance tr 1 (by simp)

theorem followsPc_decOperand (o : Operand8) : FollowsPc tr 1 s (decOperand o s) := followsPc_advance tr 1 (by simp)

theorem followsPc_writeA (res : Byte × Flags) : FollowsPc tr 1 s (writeA res s) := followsPc_advance tr 1 rfl

theorem followsPc_rotateA (op : RotOp) : FollowsPc tr 1 s (rotateA op s) := followsPc_advance tr 1 rfl

/-! ### Operations with checked accesses -/

theorem pc_of_memWrite {s t : State} {addr : Int} {v : Byte} (h : memWrite s addr v = .ok t) : t.pc = s.pc := by
  unfold memWrite at h
  split at h
  · cases h
  · cases h; rfl

theorem pc_of_push16 {s t : State} {w : Word} (h : push16 s w = .ok t) : t.pc = s.pc := by
  by_cases hsp : 2 ≤ s.sp.toNat
  · rw [push16_ok s w hsp] at h; cases h; rfl
  · rw [push16_fault s w (by omega)] at h; cases h

theorem pc_of_pop16 {s t : State} {w : Word} (h : pop16 s = .ok (w, t)) : t.pc = s.pc := by
  by_cases hsp : s.sp.toNat < 0xFFFF
  · rw [pop16_ok s hsp] at h; cases h; rfl
  · rw [pop16_fault s (by omega)] at h; cases h

theorem followsPc_storeSp (nn : Word) : FollowsPc tr 3 s (storeSp nn s) := by
  unfold storeSp
  split
  · exact .fault _
  · next s1 h1 =>
    split
    · exact .fault _
    · next s2 h2 => exact followsPc_advance tr 3 ((pc_of_memWrite h2).trans (pc_of_memWrite h1))

theorem followsPc_pushWord (w : Word) : FollowsPc tr 1 s (pushWord w s) := by
  unfold pushWord
  split
  · exact .fault _
  · next t h => exact followsPc_advance tr 1 (pc_of_push16 h)

theorem followsPc_popPair (p : Pair) : FollowsPc tr 1 s (popPair p s) := by
  unfold popPair
  split
  · exact .fault _
  · next w t h => exact followsPc_advance tr 1 ((State.pc_setPair t p w).trans (pc_of_pop16 h))

theorem followsPc_popAfWith (p : FlagPacking) : FollowsPc tr 1 s (popAfWith p s) := by
  unfold popAfWith
  split
  · exact .fault _
  · next w t h => exact followsPc_advance tr 1 ((State.pc_setAfWith t p w).trans (pc_of_pop16 h))

/-! ### Control transfers -/

theorem followsPc_callTo (len : Nat) (ret target : Word) : FollowsPc true len s (callTo s ret target) := by
  unfold callTo
  split
  · exact .fault _
  · exact followsPc_transfer ..

theorem followsPc_returnToCaller (len : Nat) : FollowsPc true len s (returnToCaller s) := by
  unfold returnToCaller
  split
  · exact .fault _
  · exact followsPc_transfer ..

theorem followsPc_jumpIf (cc : Cond) (target : Word) (len : Nat) : FollowsPc true len s (jumpIf cc target len s) := by
  unfold jumpIf
  split <;> exact followsPc_transfer ..

theorem followsPc_callIf (cc : Cond) (nn : Word) : FollowsPc true 3 s (callIf cc nn s) := by
  unfold callIf
  split
  · exact followsPc_callTo ..
  · exact followsPc_transfer ..

theorem followsPc_returnIf (cc : Cond) : FollowsPc true 1 s (returnIf cc s) := by
  unfold returnIf
  split
  · exact followsPc_returnToCaller ..
  · exact followsPc_transfer ..

end

end Sys2Proof.Machine
end

section
/-! SUPPORT. What holds of every entry of the base and the extended table (spec/30_encoding.md R91 to R97), by the cases of
the tables themselves: each selects a whole instruction of the length its format has, whose meaning follows `FollowsPc`. -/

namespace Sys2Proof

open Sys2Proof.Machine

/-- A whole instruction of `len` bytes that never refuses and, unless it is a control transfer, moves PC past them. -/
structure Instr.Conforms (transfers : Bool) (len : Nat) (i : Instr) : Prop where
  whole : i.wellFormed = true ∧ i.length = len
  followsPc : ∀ s, FollowsPc transfers len s (exec i s)

/-- The instruction an entry of the base table selects, given the byte and the word that may follow the opcode. -/
def BaseEntry.complete (n : Byte) (nn : Word) : BaseEntry → Instr
  | .op i => i
  | .opPad i => i
  | .opN8 build => build n
  | .opE8 build => build n
  | .opN16 build => build nn
  | .pre => extendedEntry n

/-- Whatever follows the opcode, the instruction conforms, with the length the entry's format has. -/
def BaseEntry.Conforms (transfers : Bool) (e : BaseEntry) : Prop :=
  ∀ n nn, (e.complete n nn).Conforms transfers e.format.length

/-! ### The extended table -/

theorem extendedEntry_whole : ∀ o : Byte, (extendedEntry o).wellFormed = true ∧ (extendedEntry o).length = 2 := by decide

/-- An extended instruction completes in every state, two bytes on. -/
theorem exec_extendedEntry_next (o : Byte) (s : State) :
    ∃ t, exec (extendedEntry o) s = .next t ∧ t.pc = s.pc + 2#16 := by
  unfold extendedEntry
  split
  · exact ⟨_, exec_rot .., by simp⟩
  · exact ⟨_, exec_bit .., rfl⟩
  · exact ⟨_, exec_res .., by simp⟩
  · exact ⟨_, exec_set .., by simp⟩

/-! ### The families of the base table -/

section
variable (tr : Bool)

theorem conforms_pre : BaseEntry.Conforms tr .pre := fun o _ =>
  ⟨extendedEntry_whole o, fun s => by
    obtain ⟨t, ht, hpc⟩ := exec_extendedEntry_next o s
    exact ht ▸ .next fun _ => hpc⟩

theorem conforms_ld (x y : Reg8) : (Instr.ld x y).Conforms tr 1 :=
  ⟨by cases x <;> cases y <;> exact ⟨rfl, rfl⟩, fun s => exec_ld x y s ▸ followsPc_loadReg ..⟩

theorem conforms_ldLoad (r : Reg8) : (Instr.ldLoad r).Conforms tr 1 :=
  ⟨by cases r <;> exact ⟨rfl, rfl⟩, fun s => exec_ldLoad r s ▸ followsPc_loadReg ..⟩

theorem conforms_ldStore (r : Reg8) : (Instr.ldStore r).Conforms tr 1 :=
  ⟨by cases r <;> exact ⟨rfl, rfl⟩, fun s => exec_ldStore r s ▸ followsPc_storeByte ..⟩

theorem conforms_ldImm (r : Reg8) (n : Byte) : (Instr.ldImm r n).Conforms tr 2 :=
  ⟨by cases r <;> exact ⟨rfl, rfl⟩, fun s => exec_ldImm r n s ▸ followsPc_loadReg ..⟩

theorem conforms_ldPair (p : Pair) (nn : Word) : (Instr.ldPair p nn).Conforms tr 3 :=
  ⟨by cases p <;> exact ⟨rfl, rfl⟩, fun s => exec_ldPair p nn s ▸ followsPc_loadPair ..⟩

theorem conforms_alu (op : AluOp) (src : Source8) : (Instr.alu op src).Conforms tr (sourceLength src) :=
  ⟨by cases op <;> rcases src with (_ | _) | _ | _ <;> exact ⟨rfl, rfl⟩,
    fun s => exec_alu op src s ▸ followsPc_aluStep ..⟩

theorem conforms_inc (o : Operand8) : (Instr.inc o).Conforms tr 1 :=
  ⟨by rcases o with (_ | _) | _ <;> exact ⟨rfl, rfl⟩, fun s => exec_inc o s ▸ followsPc_incOperand ..⟩

theorem conforms_dec (o : Operand8) : (Instr.dec o).Conforms tr 1 :=
  ⟨by rcases o with (_ | _) | _ <;> exact ⟨rfl, rfl⟩, fun s => exec_dec o s ▸ followsPc_decOperand ..⟩

theorem conforms_addHL (p : Pair) : (Instr.addHL p).Conforms tr 1 :=
  ⟨by cases p <;> exact ⟨rfl, rfl⟩, fun s => exec_addHL p s ▸ followsPc_addToHL ..⟩

theorem conforms_incPair (p : Pair) : (Instr.incPair p).Conforms tr 1 :=
  ⟨by cases p <;> exact ⟨rfl, rfl⟩, fun s => exec_incPair p s ▸ followsPc_stepPair ..⟩

theorem conforms_decPair (p : Pair) : (Instr.decPair p).Conforms tr 1 :=
  ⟨by cases p <;> exact ⟨rfl, rfl⟩, fun s => exec_decPair p s ▸ followsPc_stepPair ..⟩

theorem conforms_push (p : StackPair) : (Instr.push p).Conforms tr 1 := by
  cases p <;> exact ⟨⟨rfl, rfl⟩, fun _ => followsPc_pushWord ..⟩

theorem conforms_pop (p : StackPair) : (Instr.pop p).Conforms tr 1 := by
  cases p with
  | bc | de | hl => exact ⟨⟨rfl, rfl⟩, fun _ => followsPc_popPair ..⟩
  | af => exact ⟨⟨rfl, rfl⟩, fun _ => followsPc_popAfWith ..⟩

end

theorem conforms_jrCond (cc : Cond) (e : Byte) : (Instr.jrCond cc e).Conforms true 2 :=
  ⟨by cases cc <;> exact ⟨rfl, rfl⟩, fun s => exec_jrCond cc e s ▸ followsPc_jumpIf ..⟩

theorem conforms_jpCond (cc : Cond) (nn : Word) : (Instr.jpCond cc nn).Conforms true 3 :=
  ⟨by cases cc <;> exact ⟨rfl, rfl⟩, fun s => exec_jpCond cc nn s ▸ followsPc_jumpIf ..⟩

theorem conforms_callCond (cc : Cond) (nn : Word) : (Instr.callCond cc nn).Conforms true 3 :=
  ⟨by cases cc <;> exact ⟨rfl, rfl⟩, fun s => exec_callCond cc nn s ▸ followsPc_callIf ..⟩

theorem conforms_retCond (cc : Cond) : (Instr.retCond cc).Conforms true 1 :=
  ⟨by cases cc <;> exact ⟨rfl, rfl⟩, fun s => exec_retCond cc s ▸ followsPc_returnIf ..⟩

theorem conforms_rst (t : Fin 8) : (Instr.rst t).Conforms true 1 :=
  ⟨by fin_cases t <;> exact ⟨rfl, rfl⟩, fun s => exec_rst t s ▸ followsPc_callTo ..⟩

/-- An instruction whose whole meaning is to move past its bytes. -/
theorem conforms_of_exec_eq_advance {tr : Bool} {len : Nat} {i : Instr} (hi : i.wellFormed = true ∧ i.length = len)
    (h : ∀ s, exec i s = .next (s.advance len)) : i.Conforms tr len :=
  ⟨hi, fun s => h s ▸ followsPc_advance tr len rfl⟩

/-! ### The base table -/

theorem conforms_baseX0 (y z : Fin 8) (q : Bool) (rp : Fin 4) :
    (baseX0 y z q rp).Conforms (z == 0 && decide (3 ≤ y)) := fun n nn =>
  match z with
  | 0 =>
    match y with
    | 0 => conforms_of_exec_eq_advance ⟨rfl, rfl⟩ fun _ => rfl
    | 1 => ⟨⟨rfl, rfl⟩, fun s => followsPc_storeSp _ s nn⟩
    | 2 => conforms_of_exec_eq_advance ⟨rfl, rfl⟩ fun _ => rfl
    | 3 => ⟨⟨rfl, rfl⟩, fun _ => followsPc_transfer ..⟩
    | 4 => conforms_jrCond .nz n
    | 5 => conforms_jrCond .z n
    | 6 => conforms_jrCond .nc n
    | 7 => conforms_jrCond .c n
  | 1 =>
    match q with
    | true => conforms_addHL ..
    | false => conforms_ldPair ..
  | 2 =>
    match y with
    | 0 | 2 => ⟨⟨rfl, rfl⟩, fun _ => followsPc_storeByte ..⟩
    | 1 | 3 => ⟨⟨rfl, rfl⟩, fun _ => followsPc_loadReg ..⟩
    | 4 | 6 => ⟨⟨rfl, rfl⟩, fun _ => followsPc_storeAtHLThen ..⟩
    | 5 | 7 => ⟨⟨rfl, rfl⟩, fun _ => followsPc_loadAtHLThen ..⟩
  | 3 =>
    match q with
    | true => conforms_decPair ..
    | false => conforms_incPair ..
  | 4 => conforms_inc ..
  | 5 => conforms_dec ..
  | 6 => by
    unfold baseX0
    dsimp only
    split
    · exact conforms_ldImm ..
    · exact ⟨⟨rfl, rfl⟩, fun _ => followsPc_storeByte ..⟩
  | 7 =>
    match y with
    | 0 | 1 | 2 | 3 => ⟨⟨rfl, rfl⟩, fun _ => followsPc_rotateA ..⟩
    | 4 | 5 | 6 | 7 => ⟨⟨rfl, rfl⟩, fun _ => followsPc_writeA ..⟩

theorem conforms_baseX1 (tr : Bool) (y z : Fin 8) : (baseX1 y z).Conforms tr := by
  unfold baseX1
  intro n nn
  split
  · exact conforms_ld ..
  · exact conforms_ldLoad ..
  · exact conforms_ldStore ..
  · exact ⟨⟨rfl, rfl⟩, fun _ => followsPc_advance _ 1 rfl⟩

theorem conforms_baseX2 (tr : Bool) (y z : Fin 8) : (BaseEntry.op (.alu (aluOf y) (sourceOf z))).Conforms tr := by
  have hlen : sourceLength (sourceOf z) = 1 := by
    unfold sourceOf
    split <;> rfl
  intro _ _
  have h := conforms_alu tr (aluOf y) (sourceOf z)
  rwa [hlen] at h

/-- Which opcodes with x = 3 are control transfers (R94, R260). -/
def transfersX3 (y z : Fin 8) (q : Bool) (rp : Fin 4) : Bool :=
  match z with
  | 0 => y < 4
  | 1 => q && rp < 3
  | 2 => y < 4
  | 3 => y == 0
  | 4 => y < 4
  | 5 => q && rp == 0
  | 6 => false
  | 7 => true

theorem conforms_baseX3 (y z : Fin 8) (q : Bool) (rp : Fin 4) :
    (baseX3 y z q rp).Conforms (transfersX3 y z q rp) := fun n nn =>
  match z with
  | 0 =>
    match y with
    | 0 => conforms_retCond .nz
    | 1 => conforms_retCond .z
    | 2 => conforms_retCond .nc
    | 3 => conforms_retCond .c
    | 4 => ⟨⟨rfl, rfl⟩, fun _ => followsPc_storeByte ..⟩
    | 6 => ⟨⟨rfl, rfl⟩, fun _ => followsPc_loadReg ..⟩
    | 5 | 7 => ⟨⟨rfl, rfl⟩, fun _ => followsPc_addToSp ..⟩
  | 1 =>
    match q with
    | true =>
      match rp with
      | 0 | 1 => ⟨⟨rfl, rfl⟩, fun _ => followsPc_returnToCaller ..⟩
      | 2 => ⟨⟨rfl, rfl⟩, fun _ => followsPc_transfer ..⟩
      | 3 => ⟨⟨rfl, rfl⟩, fun _ => followsPc_loadPair ..⟩
    | false => conforms_pop ..
  | 2 =>
    match y with
    | 0 => conforms_jpCond .nz nn
    | 1 => conforms_jpCond .z nn
    | 2 => conforms_jpCond .nc nn
    | 3 => conforms_jpCond .c nn
    | 4 | 5 => ⟨⟨rfl, rfl⟩, fun _ => followsPc_storeByte ..⟩
    | 6 | 7 => ⟨⟨rfl, rfl⟩, fun _ => followsPc_loadReg ..⟩
  | 3 =>
    match y with
    | 0 => ⟨⟨rfl, rfl⟩, fun _ => followsPc_transfer ..⟩
    | 1 => conforms_pre _ n nn
    | 2 | 3 | 4 | 5 | 6 | 7 => conforms_of_exec_eq_advance ⟨rfl, rfl⟩ fun _ => rfl
  | 4 =>
    match y with
    | 0 => conforms_callCond .nz nn
    | 1 => conforms_callCond .z nn
    | 2 => conforms_callCond .nc nn
    | 3 => conforms_callCond .c nn
    | 4 | 5 | 6 | 7 => conforms_of_exec_eq_advance ⟨rfl, rfl⟩ fun _ => rfl
  | 5 =>
    match q with
    | true =>
      match rp with
      | 0 => ⟨⟨rfl, rfl⟩, fun _ => followsPc_callTo ..⟩
      | 1 | 2 | 3 => conforms_of_exec_eq_advance ⟨rfl, rfl⟩ fun _ => rfl
    | false => conforms_push ..
  | 6 => conforms_alu _ _ (.imm n)
  | 7 => conforms_rst ..

/-- The control-transfer opcodes by their fields (R91 to R94, R260). -/
theorem opcodeTransfers_eq : ∀ op : Byte, opcodeTransfers op.toNat =
    match fieldX op with
    | 0 => fieldZ op == 0 && decide (3 ≤ fieldY op)
    | 1 => false
    | 2 => false
    | 3 => transfersX3 (fieldY op) (fieldZ op) (fieldQ op) (fieldP op) := by decide

theorem conforms_baseEntry (op : Byte) : (baseEntry op).Conforms (opcodeTransfers op.toNat) := by
  rw [opcodeTransfers_eq]
  unfold baseEntry
  generalize fieldX op = x
  match x with
  | 0 => exact conforms_baseX0 _ _ _ _
  | 1 => exact conforms_baseX1 _ _ _
  | 2 => exact conforms_baseX2 _ _ _
  | 3 => exact conforms_baseX3 _ _ _ _

end Sys2Proof
end

section
/-! SUPPORT. What the decoder answers, in terms of the entry the first byte selects: what a success gives, and how many
bytes make it succeed (spec/30_encoding.md R80, R83, R84). -/

namespace Sys2Proof

open Sys2Proof.Machine

theorem opLength_le (op : Byte) : opLength op ≤ 3 := by
  unfold opLength
  cases (baseEntry op).format <;> decide

/-- Everything the decoder can answer: the entry of the first byte, completed; or, with fewer bytes than the length table
says, an error or the bare row 0xCB (log entry 3). -/
theorem decode_cons_cases (op : Byte) (rest : List Byte) :
    (∃ n nn left, decode (op :: rest) = .ok ((baseEntry op).complete n nn, left)) ∨
    (rest.length + 1 < opLength op ∧ (decode (op :: rest) = .error (.missingImmediate op) ∨
      (baseEntry op = .pre ∧ decode (op :: rest) = .ok (.prefixCB, [])))) := by
  have hlen : opLength op = (baseEntry op).format.length := rfl
  cases he : baseEntry op with
  | op i => exact .inl ⟨0, 0, rest, by simp only [decode, he, BaseEntry.complete]⟩
  | opPad i => exact .inl ⟨0, 0, rest.drop (stopLength - 1), by simp only [decode, he, BaseEntry.complete]⟩
  | opN8 build | opE8 build =>
    rw [he] at hlen
    cases rest with
    | nil => exact .inr ⟨by simp [hlen, BaseEntry.format, Format.length], .inl (by simp only [decode, he])⟩
    | cons n r => exact .inl ⟨n, 0, r, by simp only [decode, he, BaseEntry.complete]⟩
  | opN16 build =>
    rw [he] at hlen
    rcases rest with _ | ⟨lo, _ | ⟨hi, r⟩⟩
    · exact .inr ⟨by simp [hlen, BaseEntry.format, Format.length], .inl (by simp only [decode, he])⟩
    · exact .inr ⟨by simp [hlen, BaseEntry.format, Format.length], .inl (by simp only [decode, he])⟩
    · exact .inl ⟨0, wordOf hi lo, r, by simp only [decode, he, BaseEntry.complete]⟩
  | pre =>
    rw [he] at hlen
    cases rest with
    | nil => exact .inr ⟨by simp [hlen, BaseEntry.format, Format.length], .inr ⟨rfl, by simp only [decode, he]⟩⟩
    | cons o r => exact .inl ⟨o, 0, r, by simp only [decode, he, BaseEntry.complete]⟩

/-- As many bytes as the length table says decode to a whole instruction. -/
theorem decode_cons_whole {op : Byte} {rest : List Byte} (h : opLength op ≤ rest.length + 1) :
    ∃ i left, decode (op :: rest) = .ok (i, left) ∧ i.wellFormed = true := by
  rcases decode_cons_cases op rest with ⟨n, nn, left, hd⟩ | ⟨hshort, -⟩
  · exact ⟨_, left, hd, (conforms_baseEntry op n nn).whole.1⟩
  · omega

theorem length_of_decode_cons {op : Byte} {rest : List Byte} {i : Instr} {left : List Byte}
    (h : decode (op :: rest) = .ok (i, left)) : i.length = opLength op := by
  rcases decode_cons_cases op rest with ⟨n, nn, left', hd⟩ | ⟨-, hd | ⟨hpre, hd⟩⟩ <;> rw [hd] at h <;> cases h
  · exact (conforms_baseEntry op n nn).whole.2
  · rw [opLength, hpre]
    rfl

end Sys2Proof
end

section
/-! The statements of spec/30_encoding.md: every byte value decodes (R83), the disassembler agrees with the step (R102) and
the byte 0xCB dispatches to the extended table (R84, R287). -/

namespace Sys2Proof.Machine

/-! ### The step runs an entry of the base table -/

theorem State.instrAt_eq_complete (s : State) :
    s.instrAt = (baseEntry (s.readByte s.pc)).complete s.second s.imm16 := by
  unfold State.instrAt
  cases baseEntry (s.readByte s.pc) <;> rfl

theorem conforms_instrAt (s : State) :
    s.instrAt.Conforms (opcodeTransfers s.opcode) (opLength (s.readByte s.pc)) := by
  rw [State.instrAt_eq_complete]
  exact conforms_baseEntry ..

theorem step_ne_refused (s : State) (r : Refusal) : step s ≠ .refused r := by
  rcases step_cases s with h | h
  · rw [h]
    exact ((conforms_instrAt s).followsPc s).ne_refused r
  · simp [h]

/-- A completed step that is no control transfer moves PC by the entry of the length table (R23, R96). -/
theorem pc_of_step_next {s t : State} (htr : opcodeTransfers s.opcode = false) (h : step s = .next t) :
    t.pc = s.pc + BitVec.ofNat 16 (opLength (s.readByte s.pc)) := by
  have hf := (conforms_instrAt s).followsPc s
  rw [htr, step_next h] at hf
  exact hf.pc_next

/-! ### The disassembler -/

theorem Memory.length_bytesFrom (m : Memory) (addr n : Nat) : (m.bytesFrom addr n).length = min n (0x10000 - addr) := by
  induction n generalizing addr with
  | zero => simp [Memory.bytesFrom]
  | succ n ih =>
    unfold Memory.bytesFrom Config.memSize
    split
    · simp only [List.length_cons, ih]
      omega
    · simp only [List.length_nil]
      omega

theorem Memory.bytesFrom_pc (m : Memory) (pc : Word) (n : Nat) :
    m.bytesFrom pc.toNat (n + 1) = m.read pc.toNat :: m.bytesFrom (pc.toNat + 1) n := if_pos pc.isLt

/-- The disassembler answers the instruction the decoder reads, with the length of the length table (R102). -/
theorem disassemble_of_decode {m : Memory} {pc : Word} {i : Instr} {rest : List Byte}
    (h : decode (m.bytesFrom pc.toNat 3) = .ok (i, rest)) :
    disassemble m pc = some (Instr.text i, opLength (m.read pc.toNat)) := by
  simp only [disassemble, h]
  rw [Memory.bytesFrom_pc] at h
  rw [length_of_decode_cons h]

theorem length_of_disassemble {m : Memory} {pc : Word} {text : String} {n : Nat}
    (h : disassemble m pc = some (text, n)) : n = opLength (m.read pc.toNat) := by
  cases hd : decode (m.bytesFrom pc.toNat 3) with
  | error e => simp [disassemble, hd] at h
  | ok p =>
    rw [disassemble_of_decode hd] at h
    cases h
    rfl

theorem decode_bytesFrom_whole {m : Memory} {pc : Word} (h : pc.toNat + opLength (m.read pc.toNat) ≤ 0x10000) :
    ∃ i rest, decode (m.bytesFrom pc.toNat 3) = .ok (i, rest) ∧ i.wellFormed = true := by
  have hlen := opLength_le (m.read pc.toNat)
  rw [Memory.bytesFrom_pc]
  exact decode_cons_whole (by rw [Memory.length_bytesFrom]; omega)

/-! ### The nested dispatch -/

/-- The table of meanings holds, at every byte, the meaning of the instruction the decoder selects there. -/
theorem extendedTable_getElem? (o : Byte) : extendedTable[o.toNat]? = some (exec (extendedEntry o)) := by
  have rows : extendedTable =
      (List.range' 0 (16 * 16)).map (fun k => exec (extendedEntry (BitVec.ofNat 8 k))) := by
    -- both sides as sixteen rows of sixteen, which `rfl` compares entry by entry
    simp only [Nat.mul_succ, Nat.mul_zero, ← List.range'_append_1, List.map_append]
    rfl
  rw [rows, List.getElem?_map, List.getElem?_range' o.isLt]
  simp

theorem exec_prefixCB_ok (s : State) (h : s.pc.toNat < 0xFFFF) : exec .prefixCB s = exec (extendedEntry s.second) s := by
  have hread : memRead s ((s.pc.toNat : Int) + 1) = .ok s.second := by
    rw [State.second_eq s h]
    exact memRead_ok s (s.pc.toNat + 1) (by omega)
  change execPrefixCB s = _
  simp only [execPrefixCB, hread, extendedTable_getElem?]

theorem exec_prefixCB_fault (s : State) (h : s.pc.toNat = 0xFFFF) :
    exec .prefixCB s = .fault (.boundsViolation 0x10000) := by
  have hread : memRead s ((s.pc.toNat : Int) + 1) = .error (.boundsViolation 0x10000) := by
    rw [h]
    exact memRead_fault s 0x10000 (by omega)
  change execPrefixCB s = _
  simp only [execPrefixCB, hread]

/-- At the opcode 0xCB a step is the meaning of the base-table row, faults included. -/
theorem step_eq_exec_prefixCB (s : State) (h : s.opcode = 0xCB) : step s = exec .prefixCB s := by
  have hpc := s.pc.isLt
  have hop : s.readByte s.pc = 0xCB#8 := BitVec.eq_of_toNat_eq h
  have hlen : s.fetchLength = 2 := by rw [State.fetchLength, hop]; rfl
  have hinstr : s.instrAt = extendedEntry s.second := by rw [State.instrAt_eq_complete, hop]; rfl
  rw [step_eq, hlen, hinstr]
  split
  · exact (exec_prefixCB_ok s (by omega)).symm
  · exact (exec_prefixCB_fault s (by omega)).symm

/-! ### The statements -/

/-- Settles O3: every first byte has an entry, every entry a whole instruction, and no instruction of the table refuses. -/
theorem everyByteValueDecodes : Obligations.EveryByteValueDecodes := by
  refine ⟨fun op b c rest => ?_, step_ne_refused⟩
  have hlen := opLength_le op
  exact decode_cons_whole (by simp only [List.length_cons]; omega)

/-- Settles O5: disassembler and step read the one length table. -/
theorem disassemblerAgreesWithTheExecutor : Obligations.DisassemblerAgreesWithTheExecutor := by
  refine fun m pc => ⟨fun hfits => ?_, fun text n => length_of_disassemble, ?_⟩
  · obtain ⟨i, rest, h, -⟩ := decode_bytesFrom_whole hfits
    exact ⟨i, rest, h, disassemble_of_decode h⟩
  · rintro s t text n rfl rfl hdis htr hstep
    rw [length_of_disassemble hdis]
    exact pc_of_step_next htr hstep

/-- Settles O8: the table of meanings and the decoder select the same instruction for every second byte. -/
theorem prefixDispatchesToTheExtendedTable : Obligations.PrefixDispatchesToTheExtendedTable := by
  refine ⟨fun o rest => rfl, rfl, fun s h => ⟨exec_prefixCB_ok s h, ?_⟩, exec_prefixCB_fault, step_eq_exec_prefixCB⟩
  rw [exec_prefixCB_ok s h]
  exact exec_extendedEntry_next s.second s

end Sys2Proof.Machine
end

section
/-! SUPPORT. The flag computations of the 8-bit arithmetic in plain numbers (spec/00_scope.md R11, spec/42_alu_8bit.md R160,
R185, R187): each operation's result and flags as one equation, so that a proof about a family does not unfold them. -/

namespace Sys2Proof.Machine

/-- Sign, Zero and Parity of a value (R11) as the numbers a result is stated in; Carry and HalfCarry are kept. -/
theorem szp_eq_flagsOf (v : Byte) (f : Flags) : szp v f = flagsOf v f.fC f.fH := by
  have zero : (v == 0#8) = decide (v.toNat = 0) := Bool.eq_iff_iff.mpr (by simp [BitVec.toNat_eq])
  have sign : v.getLsbD 7 = decide (v.toNat ≥ 128) := v.msb_eq_decide
  have parity : (!v.getLsbD 0) = decide (v.toNat % 2 = 0) := by
    rw [BitVec.getLsbD, Nat.testBit_zero, ← decide_not]
    exact decide_eq_decide.mpr Nat.mod_two_not_eq_one
  rw [szp, zero, sign, parity]; rfl

theorem add8_eq_flagsOf (a v : Byte) (cin : Bool) :
    add8 a v cin = (BitVec.ofNat 8 (a.toNat + (v.toNat + cin.toNat)),
      flagsOf (BitVec.ofNat 8 (a.toNat + (v.toNat + cin.toNat))) (decide (a.toNat + (v.toNat + cin.toNat) > 0xFF))
        (decide (a.toNat % 16 + (v.toNat % 16 + cin.toNat) > 0xF))) := by
  simp only [add8, lo4, szp_eq_flagsOf, Nat.add_assoc]

theorem and8_eq_flagsOf (a v : Byte) : and8 a v = (a &&& v, flagsOf (a &&& v) false true) := by
  rw [and8, szp_eq_flagsOf]

theorem xor8_eq_flagsOf (a v : Byte) : xor8 a v = (a ^^^ v, flagsOf (a ^^^ v) false false) := by
  rw [xor8, szp_eq_flagsOf]

theorem or8_eq_flagsOf (a v : Byte) : or8 a v = (a ||| v, flagsOf (a ||| v) false false) := by
  rw [or8, szp_eq_flagsOf]

/-- The low nibble of a number taken mod 256 is that of the number. -/
theorem lo4_ofNat (n : Nat) : lo4 (BitVec.ofNat 8 n) = n % 16 := by
  rw [lo4, BitVec.toNat_ofNat]
  exact Nat.mod_mod_of_dvd n (by decide)

theorem inc8_eq_flagsOf (v : Byte) (f : Flags) :
    inc8 v f = (BitVec.ofNat 8 (v.toNat + 1),
      flagsOf (BitVec.ofNat 8 (v.toNat + 1)) f.fC (decide ((v.toNat + 1) % 16 = 0))) := by
  have hres : v + 1#8 = BitVec.ofNat 8 (v.toNat + 1) := by bv_omega
  rw [inc8, hres, lo4_ofNat, szp_eq_flagsOf]; rfl

theorem dec8_eq_flagsOf (v : Byte) (f : Flags) :
    dec8 v f = (BitVec.ofNat 8 (v.toNat + 255),
      flagsOf (BitVec.ofNat 8 (v.toNat + 255)) f.fC (decide ((v.toNat + 255) % 16 = 15))) := by
  have hres : v - 1#8 = BitVec.ofNat 8 (v.toNat + 255) := by bv_omega
  rw [dec8, hres, lo4_ofNat, szp_eq_flagsOf]; rfl

/-- A decrement takes an increment back, whatever the flags are. -/
theorem dec8_inc8_fst (v : Byte) (f g : Flags) : (dec8 (inc8 v f).1 g).1 = v := BitVec.add_sub_cancel v 1#8

end Sys2Proof.Machine
end

section
/-! The register forms of the 8-bit arithmetic and logic (spec/42_alu_8bit.md): their bytes, their next states, and the
statements about ADD and ADC (R161, R164), AND, XOR and OR (R173, R176, R179), INC and DEC (R185, R187). -/

namespace Sys2Proof.Machine

/-! ### Encodings -/

theorem encode_alu_reg (y : Fin 8) (r : Reg8) :
    encode (Instr.alu (aluOf y) (.reg r)) = [BitVec.ofNat 8 (0x80 + 8 * y.val + regCode r)] := by
  match y with
  | 0 | 1 | 2 | 3 | 4 | 5 | 6 | 7 => cases r <;> rfl

theorem encode_inc_reg (r : Reg8) : encode (Instr.inc (.reg r)) = [BitVec.ofNat 8 (0x04 + 8 * regCode r)] := by
  cases r <;> rfl

theorem encode_dec_reg (r : Reg8) : encode (Instr.dec (.reg r)) = [BitVec.ofNat 8 (0x05 + 8 * regCode r)] := by
  cases r <;> rfl

/-! ### Next states -/

/-- An ALU instruction writes A, the flags and PC and nothing else. -/
theorem exec_alu_next (op : AluOp) (src : Source8) (s : State) :
    exec (Instr.alu op src) s = .next { s with
      a := aluDestination op s.a (aluResult op s.a (s.readSource src) s.flags.fC).1
      flags := (aluResult op s.a (s.readSource src) s.flags.fC).2
      pc := s.pc + BitVec.ofNat 16 (sourceLength src) } :=
  exec_alu op src s

theorem exec_add (src : Source8) (s : State) :
    exec (Instr.alu .add src) s = .next { s with
      a := BitVec.ofNat 8 (s.a.toNat + (s.readSource src).toNat)
      flags := flagsOf (BitVec.ofNat 8 (s.a.toNat + (s.readSource src).toNat))
        (decide (s.a.toNat + (s.readSource src).toNat > 0xFF))
        (decide (s.a.toNat % 16 + (s.readSource src).toNat % 16 > 0xF))
      pc := s.pc + BitVec.ofNat 16 (sourceLength src) } := by
  rw [exec_alu_next, aluResult, add8_eq_flagsOf]; rfl

theorem exec_adc (src : Source8) (s : State) :
    exec (Instr.alu .adc src) s = .next { s with
      a := BitVec.ofNat 8 (s.a.toNat + ((s.readSource src).toNat + s.flags.fC.toNat))
      flags := flagsOf (BitVec.ofNat 8 (s.a.toNat + ((s.readSource src).toNat + s.flags.fC.toNat)))
        (decide (s.a.toNat + ((s.readSource src).toNat + s.flags.fC.toNat) > 0xFF))
        (decide (s.a.toNat % 16 + ((s.readSource src).toNat % 16 + s.flags.fC.toNat) > 0xF))
      pc := s.pc + BitVec.ofNat 16 (sourceLength src) } := by
  rw [exec_alu_next, aluResult, add8_eq_flagsOf]; rfl

theorem exec_and (src : Source8) (s : State) :
    exec (Instr.alu .and src) s = .next { s with
      a := s.a &&& s.readSource src
      flags := flagsOf (s.a &&& s.readSource src) false true
      pc := s.pc + BitVec.ofNat 16 (sourceLength src) } := by
  rw [exec_alu_next, aluResult, and8_eq_flagsOf]; rfl

theorem exec_xor (src : Source8) (s : State) :
    exec (Instr.alu .xor src) s = .next { s with
      a := s.a ^^^ s.readSource src
      flags := flagsOf (s.a ^^^ s.readSource src) false false
      pc := s.pc + BitVec.ofNat 16 (sourceLength src) } := by
  rw [exec_alu_next, aluResult, xor8_eq_flagsOf]; rfl

theorem exec_or (src : Source8) (s : State) :
    exec (Instr.alu .or src) s = .next { s with
      a := s.a ||| s.readSource src
      flags := flagsOf (s.a ||| s.readSource src) false false
      pc := s.pc + BitVec.ofNat 16 (sourceLength src) } := by
  rw [exec_alu_next, aluResult, or8_eq_flagsOf]; rfl

/-- `XOR A` clears A, whatever A was (R176). -/
theorem exec_xorA (s : State) :
    exec .xorA s = .next { s with a := 0#8, flags := ⟨true, false, false, false, true⟩, pc := s.pc + 1#16 } := by
  have hself : s.a ^^^ s.readSource (.reg .a) = 0#8 := BitVec.xor_self
  have h := exec_xor (.reg .a) s
  rw [hself] at h
  exact h

/-- `INC r` writes the register, the flags and PC and nothing else (R185). -/
theorem exec_inc_reg (r : Reg8) (s : State) :
    exec (Instr.inc (.reg r)) s = .next { s.setReg r (inc8 (s.reg r) s.flags).1 with
      flags := (inc8 (s.reg r) s.flags).2, pc := s.pc + 1#16 } := by
  rw [exec_inc, ← s.pc_setReg r (inc8 (s.reg r) s.flags).1]; rfl

/-- `DEC r` writes the register, the flags and PC and nothing else (R187). -/
theorem exec_dec_reg (r : Reg8) (s : State) :
    exec (Instr.dec (.reg r)) s = .next { s.setReg r (dec8 (s.reg r) s.flags).1 with
      flags := (dec8 (s.reg r) s.flags).2, pc := s.pc + 1#16 } := by
  rw [exec_dec, ← s.pc_setReg r (dec8 (s.reg r) s.flags).1]; rfl

/-- `INC r` and then `DEC r` complete and restore the register. -/
theorem exec_dec_after_inc (r : Reg8) (s : State) :
    ∃ t u, exec (Instr.inc (.reg r)) s = .next t ∧ exec (Instr.dec (.reg r)) t = .next u ∧ u.reg r = s.reg r := by
  refine ⟨_, _, exec_inc (.reg r) s, exec_dec (.reg r) _, ?_⟩
  simp only [State.readOperand, State.writeOperand, State.reg_advance, State.reg_setFlags, State.reg_setReg_same,
    dec8_inc8_fst]

/-! ### The statements -/

/-- Settles O37: both are the sum `add8`, ADD without a carry-in and ADC with the old Carry. -/
theorem addAndAdcOfARegister : Obligations.AddAndAdcOfARegister := fun r s =>
  ⟨encode_alu_reg 0 r, encode_alu_reg 1 r, exec_add (.reg r) s, exec_adc (.reg r) s⟩

/-- Settles O39: the three bitwise operations, and XOR of A with itself. -/
theorem logicalOperationsOnARegister : Obligations.LogicalOperationsOnARegister := fun r s =>
  ⟨encode_alu_reg 4 r, encode_alu_reg 5 r, encode_alu_reg 6 r, exec_and (.reg r) s, exec_xor (.reg r) s,
    exec_or (.reg r) s, exec_xorA s⟩

/-- Settles O43: INC and DEC of the register's value, and their round trip. -/
theorem incrementAndDecrementOfARegister : Obligations.IncrementAndDecrementOfARegister := by
  refine fun r s => ⟨encode_inc_reg r, encode_dec_reg r, ?_, ?_, exec_dec_after_inc r s⟩
  · rw [exec_inc_reg, inc8_eq_flagsOf]
  · rw [exec_dec_reg, dec8_eq_flagsOf]

end Sys2Proof.Machine
end

section
/-! ADD HL,rr (spec/43_alu_16bit.md R211): its bytes, the 16-bit addition in plain numbers, its next state, and the
statement about it. -/

namespace Sys2Proof.Machine

/-! ### Halves and bits of a number taken mod 65536 -/

theorem hi8_ofNat (n : Nat) : hi8 (BitVec.ofNat 16 n) = BitVec.ofNat 8 (n / 256) := by
  apply BitVec.eq_of_toNat_eq
  simp only [hi8, BitVec.extractLsb'_toNat, BitVec.toNat_ofNat, Nat.shiftRight_eq_div_pow]
  omega

theorem lo8_ofNat (n : Nat) : lo8 (BitVec.ofNat 16 n) = BitVec.ofNat 8 n := by
  apply BitVec.eq_of_toNat_eq
  simp only [lo8, BitVec.extractLsb'_toNat, BitVec.toNat_ofNat, Nat.shiftRight_zero]
  omega

/-- Evenness of the high byte (R11): bit 8 of the word is clear. -/
theorem not_getLsbD_eight_ofNat (n : Nat) : (!(BitVec.ofNat 16 n).getLsbD 8) = decide (n / 256 % 2 = 0) := by
  have hbit : (BitVec.ofNat 16 n).getLsbD 8 = decide (n / 256 % 2 = 1) := by
    rw [BitVec.getLsbD_ofNat, Nat.testBit_eq_decide_div_mod_eq]; rfl
  rw [hbit, ← decide_not]
  exact decide_eq_decide.mpr Nat.mod_two_not_eq_one

/-! ### Encoding and next state -/

theorem encode_addHL (p : Fin 4) : encode (Instr.addHL (pairOf p)) = [BitVec.ofNat 8 (0x09 + 16 * p.val)] := by
  match p with
  | 0 | 1 | 2 | 3 => rfl

/-- `ADD HL,rr` writes H, L, the flags and PC and nothing else. -/
theorem exec_addHL_next (p : Pair) (s : State) :
    exec (Instr.addHL p) s = .next { s with
      h := hi8 (add16 s.hl (s.pair p)).1, l := lo8 (add16 s.hl (s.pair p)).1
      flags := (add16 s.hl (s.pair p)).2
      pc := s.pc + 1#16 } :=
  exec_addHL p s

/-! ### The statement -/

/-- Settles O48: the halves and the five flags of the sum `add16`. The model's operation holds the name `addToHL` in this
namespace. -/
theorem Alu16.addToHL : Obligations.AddToHL := by
  refine fun p s => ⟨encode_addHL p, ?_⟩
  rw [exec_addHL_next]
  simp only [add16, hi8_ofNat, lo8_ofNat, not_getLsbD_eight_ofNat]

end Sys2Proof.Machine
end

section
/-! The exception of the core (spec/60_exceptions.md section 1): how each shared operation can end, how each instruction can
end, and the statement that BoundsViolation at 0x10000 or at -1 is the only exception of a step (R300, R302). -/

namespace Sys2Proof.Machine

/-- A next state, or BoundsViolation at one of the two addresses of the cause table (R300): the first address above memory,
which a read upwards or LD (nn),SP reaches, or the one below it, which a push reaches. -/
def EndsInBounds (r : Result) : Prop :=
  (∃ t, r = .next t) ∨ r = .fault (.boundsViolation 0x10000) ∨ r = .fault (.boundsViolation (-1))

theorem endsInBounds_next (t : State) : EndsInBounds (.next t) := .inl ⟨t, rfl⟩

theorem endsInBounds_above : EndsInBounds (.fault (.boundsViolation 0x10000)) := .inr (.inl rfl)

theorem endsInBounds_below : EndsInBounds (.fault (.boundsViolation (-1))) := .inr (.inr rfl)

/-! ### The addresses of the checked accesses -/

theorem memWrite_error {s : State} {addr : Int} {v : Byte} {f : Fault} (h : memWrite s addr v = .error f) :
    (addr < 0 ∨ addr > 0xFFFF) ∧ f = .boundsViolation addr := by
  unfold memWrite at h
  split at h
  · next hout => cases h; exact ⟨hout, rfl⟩
  · cases h

theorem push16_error {s : State} {w : Word} {f : Fault} (h : push16 s w = .error f) : f = .boundsViolation (-1) := by
  by_cases hsp : 2 ≤ s.sp.toNat
  · rw [push16_ok s w hsp] at h; cases h
  · rw [push16_fault s w (by omega)] at h; cases h; rfl

theorem pop16_error {s : State} {f : Fault} (h : pop16 s = .error f) : f = .boundsViolation 0x10000 := by
  by_cases hsp : s.sp.toNat < 0xFFFF
  · rw [pop16_ok s hsp] at h; cases h
  · rw [pop16_fault s (by omega)] at h; cases h; rfl

/-! ### The operations that access memory with a check, and those that depend on a condition -/

section
variable (s : State)

/-- The low byte goes to nn, which is inside memory; only the high byte can miss it, when nn = 0xFFFF (R142). -/
theorem endsInBounds_storeSp (nn : Word) : EndsInBounds (storeSp nn s) := by
  have hnn := nn.isLt
  unfold storeSp
  split
  · next h =>
    obtain ⟨hout, -⟩ := memWrite_error h
    omega
  · split
    · next h =>
      obtain ⟨hout, rfl⟩ := memWrite_error h
      have haddr : (nn.toNat : Int) + 1 = 0x10000 := by omega
      exact haddr ▸ endsInBounds_above
    · exact endsInBounds_next _

theorem endsInBounds_pushWord (w : Word) : EndsInBounds (pushWord w s) := by
  unfold pushWord
  split
  · next h => exact push16_error h ▸ endsInBounds_below
  · exact endsInBounds_next _

theorem endsInBounds_popPair (p : Pair) : EndsInBounds (popPair p s) := by
  unfold popPair
  split
  · next h => exact pop16_error h ▸ endsInBounds_above
  · exact endsInBounds_next _

theorem endsInBounds_popAfWith (p : FlagPacking) : EndsInBounds (popAfWith p s) := by
  unfold popAfWith
  split
  · next h => exact pop16_error h ▸ endsInBounds_above
  · exact endsInBounds_next _

theorem endsInBounds_callTo (ret target : Word) : EndsInBounds (callTo s ret target) := by
  unfold callTo
  split
  · next h => exact push16_error h ▸ endsInBounds_below
  · exact endsInBounds_next _

theorem endsInBounds_returnToCaller : EndsInBounds (returnToCaller s) := by
  unfold returnToCaller
  split
  · next h => exact pop16_error h ▸ endsInBounds_above
  · exact endsInBounds_next _

theorem endsInBounds_jumpIf (cc : Cond) (target : Word) (len : Nat) : EndsInBounds (jumpIf cc target len s) := by
  unfold jumpIf
  split <;> exact endsInBounds_next _

theorem endsInBounds_callIf (cc : Cond) (nn : Word) : EndsInBounds (callIf cc nn s) := by
  unfold callIf
  split
  · exact endsInBounds_callTo ..
  · exact endsInBounds_next _

theorem endsInBounds_returnIf (cc : Cond) : EndsInBounds (returnIf cc s) := by
  unfold returnIf
  split
  · exact endsInBounds_returnToCaller s
  · exact endsInBounds_next _

/-- The prefix faults where its second byte lies above memory; the instruction that byte selects never faults (R287). -/
theorem endsInBounds_prefixCB : EndsInBounds (exec .prefixCB s) := by
  have hpc := s.pc.isLt
  by_cases hin : s.pc.toNat < 0xFFFF
  · obtain ⟨t, ht, -⟩ := exec_extendedEntry_next s.second s
    rw [exec_prefixCB_ok s hin, ht]
    exact endsInBounds_next t
  · rw [exec_prefixCB_fault s (by omega)]
    exact endsInBounds_above

/-! ### Instructions and steps -/

/-- The instructions with a checked access are LD (nn),SP, the stack operations, calls, returns and the prefix; the jumps
depend on a condition; every other instruction completes in every state. -/
theorem endsInBounds_exec (i : Instr) : EndsInBounds (exec i s) := by
  cases i with
  | ldIndNN_SP nn => exact endsInBounds_storeSp s nn
  | pushBC | pushDE | pushHL | pushAF => exact endsInBounds_pushWord ..
  | popBC | popDE | popHL => exact endsInBounds_popPair ..
  | popAF => exact endsInBounds_popAfWith ..
  | jrNZ_e | jrZ_e | jrNC_e | jrC_e | jpNZ_nn | jpZ_nn | jpNC_nn | jpC_nn => exact endsInBounds_jumpIf ..
  | call_nn | rst00 | rst08 | rst10 | rst18 | rst20 | rst28 | rst30 | rst38 => exact endsInBounds_callTo ..
  | callNZ_nn | callZ_nn | callNC_nn | callC_nn => exact endsInBounds_callIf ..
  | ret | reti => exact endsInBounds_returnToCaller s
  | retNZ | retZ | retNC | retC => exact endsInBounds_returnIf ..
  | prefixCB => exact endsInBounds_prefixCB s
  | _ => exact endsInBounds_next _

theorem endsInBounds_step : EndsInBounds (step s) := by
  rcases step_cases s with h | h
  · exact h ▸ endsInBounds_exec s s.instrAt
  · exact h ▸ endsInBounds_above

end

/-- Settles O10: no instruction ends outside `EndsInBounds`; RST is a call, and the undefined opcodes only advance PC. -/
theorem stepHasNoOtherException : Obligations.StepHasNoOtherException := by
  refine ⟨endsInBounds_step, fun n s hsp => ?_, fun i s hi => ?_⟩
  · exact ⟨_, (exec_rst n s).trans (callTo_ok s _ _ hsp), rfl⟩
  · fin_cases hi <;> rfl

end Sys2Proof.Machine
end

section
/-! SUPPORT. The encoder and the decoder against each other (spec/30_encoding.md sections 2 to 5): what the decoder answers
behind an opcode of each format, what a success says about the bytes, and the bytes of every entry of the tables. -/

namespace Sys2Proof

open Sys2Proof.Machine

/-! ### The decoder behind an opcode of each format -/

section
variable {op : Byte}

theorem decode_of_op {i : Instr} (h : baseEntry op = .op i) (rest : List Byte) : decode (op :: rest) = .ok (i, rest) := by
  simp only [decode, h]

theorem decode_of_opPad {i : Instr} (h : baseEntry op = .opPad i) (rest : List Byte) :
    decode (op :: rest) = .ok (i, rest.drop 1) := by
  simp only [decode, h, stopLength]

theorem decode_of_opN8 {build : Byte → Instr} (h : baseEntry op = .opN8 build) (n : Byte) (rest : List Byte) :
    decode (op :: n :: rest) = .ok (build n, rest) := by
  simp only [decode, h]

theorem decode_of_opE8 {build : Byte → Instr} (h : baseEntry op = .opE8 build) (e : Byte) (rest : List Byte) :
    decode (op :: e :: rest) = .ok (build e, rest) := by
  simp only [decode, h]

theorem decode_of_opN16 {build : Word → Instr} (h : baseEntry op = .opN16 build) (lo hi : Byte) (rest : List Byte) :
    decode (op :: lo :: hi :: rest) = .ok (build (wordOf hi lo), rest) := by
  simp only [decode, h]

theorem decode_of_pre (h : baseEntry op = .pre) (o : Byte) (rest : List Byte) :
    decode (op :: o :: rest) = .ok (extendedEntry o, rest) := by
  simp only [decode, h]

/-- The immediate of a three-byte instruction is read back from its two bytes (R88). -/
theorem decode_of_opN16_halves {build : Word → Instr} (h : baseEntry op = .opN16 build) (nn : Word) (rest : List Byte) :
    decode (op :: lo8 nn :: hi8 nn :: rest) = .ok (build nn, rest) := by
  rw [decode_of_opN16 h, wordOf_hi8_lo8]

end

/-- A whole instruction decodes from its own bytes: at a three-byte instruction the immediate is put together again, at
every other one the decoder runs on the bytes of the table. -/
theorem decode_encode_append (i : Instr) (rest : List Byte) (h : i.wellFormed = true) :
    decode (encode i ++ rest) = .ok (i, rest) := by
  cases i with
  | prefixCB => cases h
  | ldBC_nn nn | ldIndNN_SP nn | ldDE_nn nn | ldHL_nn nn | ldSP_nn nn | jpNZ_nn nn | jp_nn nn | callNZ_nn nn | jpZ_nn nn
  | callZ_nn nn | call_nn nn | jpNC_nn nn | callNC_nn nn | jpC_nn nn | callC_nn nn | ldIndNN_A nn | ldA_IndNN nn =>
    exact decode_of_opN16_halves rfl nn rest
  | _ => rfl

/-! ### The bytes of an entry -/

/-- The bytes after the opcode, where the entry is completed with the byte `n` or the word `nn` (R81, R88); STOP has its
customary padding byte (K9). -/
def BaseEntry.operandBytes (n : Byte) (nn : Word) : BaseEntry → List Byte
  | .op _ => []
  | .opPad _ => [0x00]
  | .opN8 _ => [n]
  | .opE8 _ => [n]
  | .opN16 _ => [lo8 nn, hi8 nn]
  | .pre => [n]

theorem BaseEntry.length_operandBytes (e : BaseEntry) (n : Byte) (nn : Word) :
    (e.operandBytes n nn).length + 1 = e.format.length := by
  cases e <;> rfl

/-- Everything a successful decoding says: the entry of the first byte is completed with its operand bytes, or it is STOP
with any padding, or it is the byte 0xCB with nothing behind it. -/
theorem decode_cons_ok {op : Byte} {rest : List Byte} {i : Instr} {left : List Byte}
    (h : decode (op :: rest) = .ok (i, left)) :
    (∃ n nn, i = (baseEntry op).complete n nn ∧ rest = (baseEntry op).operandBytes n nn ++ left) ∨
    (baseEntry op = .opPad i ∧ left = rest.drop 1) ∨
    (baseEntry op = .pre ∧ rest = [] ∧ i = .prefixCB ∧ left = []) := by
  cases he : baseEntry op with
  | op j => rw [decode_of_op he] at h; cases h; exact .inl ⟨0, 0, rfl, rfl⟩
  | opPad j => rw [decode_of_opPad he] at h; cases h; exact .inr (.inl ⟨rfl, rfl⟩)
  | opN8 build =>
    cases rest with
    | nil => simp only [decode, he] at h; cases h
    | cons n r => rw [decode_of_opN8 he] at h; cases h; exact .inl ⟨n, 0, rfl, rfl⟩
  | opE8 build =>
    cases rest with
    | nil => simp only [decode, he] at h; cases h
    | cons e r => rw [decode_of_opE8 he] at h; cases h; exact .inl ⟨e, 0, rfl, rfl⟩
  | opN16 build =>
    rcases rest with _ | ⟨lo, _ | ⟨hi, r⟩⟩
    · simp only [decode, he] at h; cases h
    · simp only [decode, he] at h; cases h
    · rw [decode_of_opN16 he] at h
      cases h
      exact .inl ⟨0, wordOf hi lo, rfl, by simp [BaseEntry.operandBytes]⟩
  | pre =>
    cases rest with
    | nil => simp only [decode, he] at h; cases h; exact .inr (.inr ⟨rfl, rfl, rfl, rfl⟩)
    | cons o r => rw [decode_of_pre he] at h; cases h; exact .inl ⟨o, 0, rfl, rfl⟩

/-! ### The bytes of every entry -/

/-- The byte with the fields x, y and z (R82). -/
def byteOf (x : Fin 4) (y z : Fin 8) : Byte := BitVec.ofNat 8 (64 * x.val + 8 * y.val + z.val)

theorem byteOf_fields : ∀ op : Byte, byteOf (fieldX op) (fieldY op) (fieldZ op) = op := by decide

/-- However the entry is completed, the encoder gives this opcode and the entry's operand bytes. -/
def BaseEntry.EncodedAt (op : Byte) (e : BaseEntry) : Prop :=
  ∀ n nn, encode (e.complete n nn) = op :: e.operandBytes n nn

theorem encode_extendedEntry : ∀ o : Byte, encode (extendedEntry o) = [0xCB, o] := by decide

theorem encodedAt_byteOf (x : Fin 4) (y z : Fin 8) : (baseEntry (byteOf x y z)).EncodedAt (byteOf x y z) := by
  intro n nn
  match x with
  | 0 | 1 | 2 => fin_cases y <;> fin_cases z <;> rfl
  | 3 =>
    match z with
    | 3 =>
      match y with
      | 1 => exact encode_extendedEntry n
      | 0 | 2 | 3 | 4 | 5 | 6 | 7 => rfl
    | 0 | 1 | 2 | 4 | 5 | 6 | 7 => fin_cases y <;> rfl

theorem encodedAt_baseEntry (op : Byte) : (baseEntry op).EncodedAt op := byteOf_fields op ▸ encodedAt_byteOf _ _ _

theorem eq_of_format_opPad : ∀ op : Byte, (baseEntry op).format = .opPad → op = 0x10 := by decide

theorem eq_of_baseEntry_eq_opPad {op : Byte} {i : Instr} (h : baseEntry op = .opPad i) : op = 0x10 ∧ i = .stop := by
  have hop : op = 0x10 := eq_of_format_opPad op (by rw [h]; rfl)
  subst hop
  cases h
  exact ⟨rfl, rfl⟩

theorem eq_of_format_cb : ∀ op : Byte, (baseEntry op).format = .cb → op = 0xCB := by decide

theorem opcode_of_complete_eq_stop {op n : Byte} {nn : Word} (h : (baseEntry op).complete n nn = .stop) : op = 0x10 := by
  have henc := encodedAt_baseEntry op n nn
  rw [h] at henc
  cases henc
  rfl

/-! ### Lengths -/

theorem opLength_eq_gridLength : ∀ op : Byte, opLength op = gridLength op.toNat := by decide

/-- A decoding that had enough bytes leaves those behind the length of the first byte (R80). -/
theorem decode_consumes {op : Byte} {rest : List Byte} {i : Instr} {left : List Byte} (hlen : opLength op ≤ rest.length + 1)
    (h : decode (op :: rest) = .ok (i, left)) : left = (op :: rest).drop (opLength op) := by
  rcases decode_cons_ok h with ⟨n, nn, -, hrest⟩ | ⟨hpad, hleft⟩ | ⟨hpre, rfl, -, -⟩
  · have hbytes : (op :: (baseEntry op).operandBytes n nn).length = opLength op := BaseEntry.length_operandBytes ..
    rw [hrest, ← List.cons_append, List.drop_left' hbytes]
  · rw [hleft, opLength, hpad]
    rfl
  · rw [opLength, hpre] at hlen
    exact absurd hlen (by decide)

end Sys2Proof
end

section
/-! The statements about encodings, lengths and the fetch (spec/30_encoding.md R80 to R97, spec/20_memory.md R65, R66): both
round trips, the length table, the opcode numbers, and the step as the meaning of the decoded instruction. -/

namespace Sys2Proof.Machine

/-! ### The opcode numbers of the regular families -/

theorem encode_ld (x y : Reg8) : encode (Instr.ld x y) = [BitVec.ofNat 8 (0x40 + 8 * regCode x + regCode y)] := by
  cases x <;> cases y <;> rfl

theorem encode_ldImm (r : Reg8) (n : Byte) : encode (Instr.ldImm r n) = [BitVec.ofNat 8 (0x06 + 8 * regCode r), n] := by
  cases r <;> rfl

theorem encode_ldLoad (r : Reg8) : encode (Instr.ldLoad r) = [BitVec.ofNat 8 (0x46 + 8 * regCode r)] := by
  cases r <;> rfl

theorem encode_ldStore (r : Reg8) : encode (Instr.ldStore r) = [BitVec.ofNat 8 (0x70 + regCode r)] := by
  cases r <;> rfl

theorem encode_alu_indHL (y : Fin 8) : encode (Instr.alu (aluOf y) .indHL) = [BitVec.ofNat 8 (0x86 + 8 * y.val)] := by
  fin_cases y <;> rfl

theorem encode_alu_imm (y : Fin 8) (n : Byte) :
    encode (Instr.alu (aluOf y) (.imm n)) = [BitVec.ofNat 8 (0xC6 + 8 * y.val), n] := by
  fin_cases y <;> rfl

theorem encode_rst (t : Fin 8) : encode (Instr.rst t) = [BitVec.ofNat 8 (0xC7 + 8 * t.val)] := by
  fin_cases t <;> rfl

theorem encode_ldPair (p : Fin 4) (nn : Word) :
    encode (Instr.ldPair (pairOf p) nn) = [BitVec.ofNat 8 (0x01 + 16 * p.val), lo8 nn, hi8 nn] := by
  fin_cases p <;> rfl

theorem encode_incPair (p : Fin 4) : encode (Instr.incPair (pairOf p)) = [BitVec.ofNat 8 (0x03 + 16 * p.val)] := by
  fin_cases p <;> rfl

theorem encode_decPair (p : Fin 4) : encode (Instr.decPair (pairOf p)) = [BitVec.ofNat 8 (0x0B + 16 * p.val)] := by
  fin_cases p <;> rfl

theorem encode_pop (p : Fin 4) : encode (Instr.pop (stackPairOf p)) = [BitVec.ofNat 8 (0xC1 + 16 * p.val)] := by
  fin_cases p <;> rfl

theorem encode_push (p : Fin 4) : encode (Instr.push (stackPairOf p)) = [BitVec.ofNat 8 (0xC5 + 16 * p.val)] := by
  fin_cases p <;> rfl

theorem encode_rot_reg (y : Fin 8) (r : Reg8) :
    encode (Instr.rot (rotOf y) (.reg r)) = [0xCB#8, BitVec.ofNat 8 (8 * y.val + regCode r)] := by
  fin_cases y <;> cases r <;> rfl

theorem encode_bit_reg (y : Fin 8) (r : Reg8) :
    encode (Instr.bit y (.reg r)) = [0xCB#8, BitVec.ofNat 8 (0x40 + 8 * y.val + regCode r)] := by
  fin_cases y <;> cases r <;> rfl

theorem encode_res_reg (y : Fin 8) (r : Reg8) :
    encode (Instr.res y (.reg r)) = [0xCB#8, BitVec.ofNat 8 (0x80 + 8 * y.val + regCode r)] := by
  fin_cases y <;> cases r <;> rfl

theorem encode_set_reg (y : Fin 8) (r : Reg8) :
    encode (Instr.set y (.reg r)) = [0xCB#8, BitVec.ofNat 8 (0xC0 + 8 * y.val + regCode r)] := by
  fin_cases y <;> cases r <;> rfl

/-- The four extended families in their (HL) form. -/
theorem encode_extended_indHL (y : Fin 8) :
    encode (Instr.rot (rotOf y) .indHL) = [0xCB#8, BitVec.ofNat 8 (0x06 + 8 * y.val)] ∧
    encode (Instr.bit y .indHL) = [0xCB#8, BitVec.ofNat 8 (0x46 + 8 * y.val)] ∧
    encode (Instr.res y .indHL) = [0xCB#8, BitVec.ofNat 8 (0x86 + 8 * y.val)] ∧
    encode (Instr.set y .indHL) = [0xCB#8, BitVec.ofNat 8 (0xC6 + 8 * y.val)] := by
  fin_cases y <;> exact ⟨rfl, rfl, rfl, rfl⟩

/-! ### The bytes at PC -/

theorem State.wellFormed_instrAt (s : State) : s.instrAt.wellFormed = true := (conforms_instrAt s).whole.1

theorem State.bytesAtPc_eq_cons (s : State) : ∃ rest, s.bytesAtPc = s.readByte s.pc :: rest := by
  obtain ⟨n, hn⟩ : ∃ n, min 3 (0x10000 - s.pc.toNat) = n + 1 := Nat.exists_eq_succ_of_ne_zero (by omega)
  exact ⟨_, by rw [State.bytesAtPc, hn, List.range'_succ, List.map_cons]; rfl⟩

theorem State.bytesAtPc_eq_cons_second (s : State) (h : s.pc.toNat < 0xFFFF) :
    ∃ rest, s.bytesAtPc = s.readByte s.pc :: s.second :: rest := by
  obtain ⟨n, hn⟩ : ∃ n, min 3 (0x10000 - s.pc.toNat) = n + 2 := ⟨min 3 (0x10000 - s.pc.toNat) - 2, by omega⟩
  rw [State.bytesAtPc, hn, List.range'_succ, List.range'_succ, List.map_cons, List.map_cons, s.second_eq h]
  exact ⟨_, rfl⟩

theorem State.bytesAtPc_eq_three (s : State) (h : s.pc.toNat < 0xFFFE) :
    ∃ lo hi, s.bytesAtPc = [s.readByte s.pc, lo, hi] ∧ s.imm16 = wordOf hi lo := by
  refine ⟨_, _, ?_, s.imm16_eq h⟩
  rw [State.bytesAtPc, show min 3 (0x10000 - s.pc.toNat) = 3 by omega]
  rfl

theorem State.length_bytesAtPc (s : State) : s.bytesAtPc.length = min 3 (0x10000 - s.pc.toNat) := by
  rw [State.bytesAtPc, List.length_map, List.length_range']

/-- Where the fetch stays inside memory, the bytes at PC decode to the instruction the step runs. -/
theorem decode_bytesAtPc_ok (s : State) (h : s.pc.toNat + s.fetchLength ≤ 0x10000) :
    ∃ rest, decode s.bytesAtPc = .ok (s.instrAt, rest) := by
  rw [State.instrAt_eq_complete]
  unfold State.fetchLength at h
  obtain ⟨rest, hbytes⟩ := s.bytesAtPc_eq_cons
  cases he : baseEntry (s.readByte s.pc) with
  | op i => exact ⟨_, by rw [hbytes, decode_of_op he]; rfl⟩
  | opPad i => exact ⟨_, by rw [hbytes, decode_of_opPad he]; rfl⟩
  | opN8 | opE8 | pre =>
    rw [he] at h
    simp only [BaseEntry.format, Format.fetched] at h
    obtain ⟨rest, hbytes⟩ := s.bytesAtPc_eq_cons_second (by omega)
    exact ⟨rest, by simp only [hbytes, decode, he, BaseEntry.complete]⟩
  | opN16 build =>
    rw [he] at h
    simp only [BaseEntry.format, Format.fetched] at h
    obtain ⟨lo, hi, hbytes, himm⟩ := s.bytesAtPc_eq_three (by omega)
    exact ⟨_, by rw [hbytes, decode_of_opN16 he, himm]; rfl⟩

/-- Where the fetch leaves memory, the bytes at PC decode to no whole instruction. -/
theorem not_wellFormed_of_decode_bytesAtPc {s : State} {i : Instr} {rest : List Byte}
    (hout : ¬ s.pc.toNat + s.fetchLength ≤ 0x10000) (h : decode s.bytesAtPc = .ok (i, rest)) : i.wellFormed = false := by
  have hlen := s.length_bytesAtPc
  obtain ⟨tail, hbytes⟩ := s.bytesAtPc_eq_cons
  rw [hbytes] at h hlen
  rcases decode_cons_ok h with ⟨n, nn, -, rfl⟩ | ⟨hpad, -⟩ | ⟨-, -, rfl, -⟩
  · have hop := BaseEntry.length_operandBytes (baseEntry (s.readByte s.pc)) n nn
    have hpc := s.pc.isLt
    unfold State.fetchLength at hout
    rw [List.length_cons, List.length_append] at hlen
    cases hf : (baseEntry (s.readByte s.pc)).format <;> rw [hf] at hop hout <;>
      simp only [Format.length, Format.fetched] at hop hout <;> omega
  · rw [State.fetchLength, hpad] at hout
    exact absurd s.pc.isLt (by simpa [BaseEntry.format, Format.fetched] using hout)
  · rfl

/-! ### The statements -/

/-- Settles O1: the immediates are the only operands that the decoder does not read off the opcode. -/
theorem decodeInvertsEncode : Obligations.DecodeInvertsEncode := decode_encode_append

/-- Settles O2: the bytes of every entry, and STOP as the one entry with a byte that is not read. -/
theorem encodeInvertsDecode : Obligations.EncodeInvertsDecode := by
  intro bytes i rest h
  cases bytes with
  | nil => cases h
  | cons op tail =>
    rcases decode_cons_ok h with ⟨n, nn, rfl, rfl⟩ | ⟨hpad, rfl⟩ | ⟨hpre, rfl, rfl, rfl⟩
    · refine ⟨fun _ => by rw [encodedAt_baseEntry op n nn]; rfl, fun hstop => ?_⟩
      cases opcode_of_complete_eq_stop hstop
      exact ⟨_, rfl, rfl⟩
    · obtain ⟨rfl, rfl⟩ := eq_of_baseEntry_eq_opPad hpad
      exact ⟨fun hne => absurd rfl hne, fun _ => ⟨tail, rfl, rfl⟩⟩
    · have hop : op = 0xCB := eq_of_format_cb op (by rw [hpre]; rfl)
      exact ⟨fun _ => by rw [hop]; rfl, nofun⟩

/-- Settles O4: the table of formats against the printed table, and what each format consumes. -/
theorem lengthsFollowTheLengthTable : Obligations.LengthsFollowTheLengthTable := by
  refine ⟨opLength_eq_gridLength, fun op b c rest i left h => ?_⟩
  have hlen := opLength_le op
  rw [← opLength_eq_gridLength]
  exact ⟨decode_consumes (by simp only [List.length_cons]; omega) h, length_of_decode_cons h⟩

/-- Settles O6: the families of the base table by their fields, then those of the extended table. -/
theorem opcodeNumbersFollowTheEncodingLines : Obligations.OpcodeNumbersFollowTheEncodingLines :=
  ⟨encode_ld, encode_ldImm,
    fun r => ⟨encode_ldLoad r, encode_ldStore r, encode_inc_reg r, encode_dec_reg r⟩,
    fun y => ⟨encode_alu_reg y, encode_alu_indHL y, encode_alu_imm y, encode_rst y⟩,
    fun p => ⟨encode_ldPair p, encode_incPair p, encode_addHL p, encode_decPair p, encode_pop p, encode_push p⟩,
    fun y => ⟨fun r => ⟨encode_rot_reg y r, encode_bit_reg y r, encode_res_reg y r, encode_set_reg y r⟩,
      encode_extended_indHL y⟩⟩

/-- Settles O7: each word runs through the decoder. -/
theorem sampleWordsDecode : Obligations.SampleWordsDecode := by
  unfold Obligations.SampleWordsDecode
  and_intros <;> rfl

/-- Settles O9: the fetch takes from memory exactly the bytes the decoder needs. -/
theorem stepRunsTheDecodedInstruction : Obligations.StepRunsTheDecodedInstruction := by
  intro s
  rw [step_eq]
  by_cases hin : s.pc.toNat + s.fetchLength ≤ 0x10000
  · obtain ⟨left, hdec⟩ := decode_bytesAtPc_ok s hin
    rw [if_pos hin, hdec]
    refine ⟨?_, ?_, nofun⟩
    · rintro i rest ⟨⟩ -
      rfl
    · rintro i rest ⟨⟩ hbad
      exact absurd s.wellFormed_instrAt (by simp [hbad])
  · rw [if_neg hin]
    refine ⟨fun i rest hdec hwhole => ?_, fun _ _ _ _ => rfl, fun _ _ => rfl⟩
    exact absurd hwhole (by simp [not_wellFormed_of_decode_bytesAtPc hin hdec])

end Sys2Proof.Machine
end

section
/-! SUPPORT. The operations with checked accesses, one equation for each outcome (spec/41_loads_16bit_stack.md R140 to
R148). -/

namespace Sys2Proof.Machine

section
variable (s : State)

theorem storeSp_ok (nn : Word) (h : nn.toNat < 0xFFFF) :
    storeSp nn s = .next { s with
      mem := (s.mem.write nn.toNat (lo8 s.sp)).write (nn.toNat + 1) (hi8 s.sp), pc := s.pc + 3#16 } := by
  have hnext : (nn.toNat : Int) + 1 = ((nn.toNat + 1 : Nat) : Int) := by omega
  simp only [storeSp, hnext, memWrite_ok _ _ _ nn.isLt, memWrite_ok _ _ _ (show nn.toNat + 1 < 0x10000 by omega)]
  rfl

theorem storeSp_fault (nn : Word) (h : nn.toNat = 0xFFFF) : storeSp nn s = .fault (.boundsViolation 0x10000) := by
  have hnext : (nn.toNat : Int) + 1 = 0x10000 := by omega
  simp only [storeSp, hnext, memWrite_ok _ _ _ nn.isLt, memWrite_fault _ 0x10000 _ (by omega)]

theorem pushWord_ok (w : Word) (h : 2 ≤ s.sp.toNat) :
    pushWord w s = .next { s with mem := s.pushedMem (hi8 w) (lo8 w), sp := s.sp - 2#16, pc := s.pc + 1#16 } := by
  simp only [pushWord, push16_ok s w h]
  rfl

theorem pushWord_fault (w : Word) (h : s.sp.toNat < 2) : pushWord w s = .fault (.boundsViolation (-1)) := by
  simp only [pushWord, push16_fault s w h]

theorem popPair_ok (p : Pair) (h : s.sp.toNat < 0xFFFF) :
    popPair p s = .next ((State.setPair { s with sp := s.sp + 2#16 } p
      (wordOf (s.mem.read (s.sp.toNat + 1)) (s.mem.read s.sp.toNat))).advance 1) := by
  simp only [popPair, pop16_ok s h]

theorem popPair_fault (p : Pair) (h : s.sp.toNat = 0xFFFF) : popPair p s = .fault (.boundsViolation 0x10000) := by
  simp only [popPair, pop16_fault s h]

theorem popAfWith_ok (p : FlagPacking) (h : s.sp.toNat < 0xFFFF) :
    popAfWith p s = .next { s with
      a := s.mem.read (s.sp.toNat + 1), flags := p.unpack (s.mem.read s.sp.toNat)
      sp := s.sp + 2#16, pc := s.pc + 1#16 } := by
  simp only [popAfWith, pop16_ok s h, State.setAfWith, hi8_wordOf, lo8_wordOf]
  rfl

theorem popAfWith_fault (p : FlagPacking) (h : s.sp.toNat = 0xFFFF) :
    popAfWith p s = .fault (.boundsViolation 0x10000) := by
  simp only [popAfWith, pop16_fault s h]

end

end Sys2Proof.Machine
end

section
/-! SUPPORT. The tables of Sys2Proof/Safety.lean as one description of an instruction at a state, its footprint, and what each
shared operation leaves within its footprint: one lemma for each. -/

namespace Sys2Proof.Machine

/-! ### Footprints -/

/-- Between the two memories no byte differs outside the addresses, and the canonical form is kept. -/
structure Memory.ChangedAt (addrs : List Nat) (m m' : Memory) : Prop where
  read : ∀ addr, addr ∉ addrs → m'.read addr = m.read addr
  wf : m.wf → m'.wf

theorem Memory.ChangedAt.refl (addrs : List Nat) (m : Memory) : m.ChangedAt addrs m := ⟨fun _ _ => rfl, id⟩

theorem Memory.ChangedAt.write {addrs : List Nat} {m m' : Memory} (h : m.ChangedAt addrs m') {x : Nat} (hx : x ∈ addrs)
    (hlt : x < Config.memSize) (v : Byte) : m.ChangedAt addrs (m'.write x v) where
  read addr haddr := by
    rw [Memory.read_write_other _ _ _ _ (ne_of_mem_of_not_mem hx haddr).symm, h.read addr haddr]
  wf hm := Memory.wf_write (h.wf hm) hlt v

/-- What the tables say of one instruction at one state (R24, R26, R27, R56, R300). -/
structure Footprint where
  /-- the row of the flag table -/
  flags : FlagRow
  /-- the registers it may write -/
  regs : Reg8 → Bool
  /-- it computes a new SP -/
  loadsSp : Bool
  /-- it pushes a word -/
  pushes : Bool
  /-- it pops a word -/
  pops : Bool
  /-- the addresses it stores to -/
  stores : List Nat
  /-- it sets the latch -/
  halts : Bool
  /-- the address of the access outside memory, if there is one -/
  fault : Option Int

/-- The next state differs from the state only within the footprint. -/
structure Footprint.Allows (f : Footprint) (s t : State) : Prop where
  flags : f.flags.allows s.flags t.flags = true
  reg : ∀ r, f.regs r = false → t.reg r = s.reg r
  sp_kept : f.loadsSp = false → f.pushes = false → f.pops = false → t.sp = s.sp
  sp_pushed : f.pushes = true → t.sp = s.sp - 2#16
  sp_popped : f.pops = true → t.sp = s.sp + 2#16
  mem : s.mem.ChangedAt f.stores t.mem
  halted : t.halted = (s.halted || f.halts)

/-- The outcome at `s` is the fault of the footprint, or a next state the footprint allows. -/
def Footprint.Covers (f : Footprint) (s : State) (r : Result) : Prop :=
  match f.fault with
  | some addr => r = .fault (.boundsViolation addr)
  | none => ∃ t, r = .next t ∧ f.Allows s t

/-- The fault of a pop or push (R300): a word at the top of memory, or below its bottom. -/
def stackFault (pushes pops : Bool) (sp : Nat) : Option Int :=
  if pops ∧ sp = 0xFFFF then some 0x10000 else if pushes ∧ sp < 2 then some (-1) else none

/-- The row of an instruction that writes no flag. -/
def FlagRow.keep : FlagRow := ⟨.kept, .kept, .kept, .kept, .kept⟩

@[simp] theorem FlagRow.allows_keep (f : Flags) : FlagRow.keep.allows f f = true := by
  simp [FlagRow.keep, FlagRow.allows, FlagEffect.allows]

/-! ### Operations that leave SP and the latch alone -/

section
variable {s : State} {w : Reg8 → Bool}

theorem covers_still {row : FlagRow} {stores : List Nat} {t : State} (hflags : row.allows s.flags t.flags = true)
    (hreg : ∀ r, w r = false → t.reg r = s.reg r) (hsp : t.sp = s.sp) (hmem : s.mem.ChangedAt stores t.mem)
    (hhalted : t.halted = s.halted) : (Footprint.mk row w false false false stores false none).Covers s (.next t) :=
  ⟨t, rfl, hflags, hreg, fun _ _ _ => hsp, nofun, nofun, hmem, by rw [hhalted, Bool.or_false]⟩

theorem reg_setReg_unwritten {r : Reg8} (hw : w r = true) (v : Byte) (q : Reg8) (hq : w q = false) :
    (s.setReg r v).reg q = s.reg q :=
  State.reg_setReg_other _ _ _ _ (by rintro rfl; simp [hw] at hq)

theorem reg_setHL_unwritten (hh : w .h = true) (hl : w .l = true) (v : Word) (q : Reg8) (hq : w q = false) :
    (s.setHL v).reg q = s.reg q := by
  cases q with
  | h => simp [hh] at hq
  | l => simp [hl] at hq
  | _ => rfl

/-- A pair's write leaves every register that is not one of its halves. -/
theorem reg_setPair_unwritten (p : Fin 3) (v : Word) (q : Reg8) (hq : regInPair q p = false) :
    (s.setPair (pairOf p.castSucc) v).reg q = s.reg q := by
  fin_cases p <;> cases q <;> first | rfl | cases hq

theorem sp_setPair_view (p : Fin 3) (v : Word) : (s.setPair (pairOf p.castSucc) v).sp = s.sp := by
  fin_cases p <;> rfl

theorem covers_advance (len : Nat) : (Footprint.mk .keep w false false false [] false none).Covers s (.next (s.advance len)) :=
  covers_still (by simp) (by simp) rfl (.refl _ _) rfl

theorem covers_jumpTo (target : Word) : (Footprint.mk .keep w false false false [] false none).Covers s (jumpTo target s) :=
  covers_still (by simp) (by simp) rfl (.refl _ _) rfl

theorem covers_jumpIf (cc : Cond) (target : Word) (len : Nat) :
    (Footprint.mk .keep w false false false [] false none).Covers s (jumpIf cc target len s) := by
  unfold jumpIf
  split
  · exact covers_jumpTo target
  · exact covers_advance len

theorem covers_loadReg {r : Reg8} (hw : w r = true) (v : Byte) (len : Nat) :
    (Footprint.mk .keep w false false false [] false none).Covers s (loadReg r v len s) :=
  covers_still (by simp) (by simpa using reg_setReg_unwritten hw v) (by simp) (by simp [Memory.ChangedAt.refl]) (by simp)

theorem covers_storeByte {addr : Word} {k : Nat} (hk : addr.toNat = k) (v : Byte) (len : Nat) :
    (Footprint.mk .keep w false false false [k] false none).Covers s (storeByte addr v len s) :=
  covers_still (by simp) (by simp) rfl ((Memory.ChangedAt.refl _ _).write (by simp [hk]) addr.isLt v) rfl

theorem covers_storeAtHLThen (hh : w .h = true) (hl : w .l = true) (v : Word) :
    (Footprint.mk .keep w false false false [s.hl.toNat] false none).Covers s (storeAtHLThen v s) :=
  covers_still (by simp) (fun r hr => by simp [reg_setHL_unwritten hh hl v r hr]) rfl
    ((Memory.ChangedAt.refl _ _).write (by simp) s.hl.isLt _) rfl

theorem covers_loadAtHLThen (ha : w .a = true) (hh : w .h = true) (hl : w .l = true) (v : Word) :
    (Footprint.mk .keep w false false false [] false none).Covers s (loadAtHLThen v s) :=
  covers_still (by simp)
    (fun r hr => by simp [reg_setHL_unwritten hh hl v r hr, reg_setReg_unwritten ha _ r hr]) (by simp)
    (by simp [Memory.ChangedAt.refl]) (by simp)

/-! ### Pairs -/

theorem covers_loadPair (p : Fin 3) (v : Word) (len : Nat) :
    (Footprint.mk .keep (regInPair · p) false false false [] false none).Covers s (loadPair (pairOf p.castSucc) v len s) :=
  covers_still (by simp) (by simpa using reg_setPair_unwritten p v) (sp_setPair_view p v)
    (by simp [Memory.ChangedAt.refl]) (by simp)

theorem covers_stepPair (p : Fin 3) (v : Word) :
    (Footprint.mk .keep (regInPair · p) false false false [] false none).Covers s (stepPair (pairOf p.castSucc) v s) :=
  covers_loadPair p v 1

theorem covers_loadSp (v : Word) (len : Nat) :
    (Footprint.mk .keep w true false false [] false none).Covers s (loadPair .sp v len s) :=
  ⟨_, rfl, by simp, fun _ _ => rfl, nofun, nofun, nofun, .refl _ _, by simp⟩

theorem covers_stepSp (v : Word) : (Footprint.mk .keep w true false false [] false none).Covers s (stepPair .sp v s) :=
  covers_loadSp v 1

theorem covers_addToSp (e : Byte) :
    (Footprint.mk ⟨.cleared, .computed, .cleared, .computed, .computed⟩ w true false false [] false none).Covers s
      (addToSp .sp e s) :=
  ⟨_, rfl, rfl, fun _ _ => rfl, nofun, nofun, nofun, .refl _ _, by simp⟩

theorem covers_addToSp_hl (hh : w .h = true) (hl : w .l = true) (e : Byte) :
    (Footprint.mk ⟨.cleared, .computed, .cleared, .computed, .computed⟩ w false false false [] false none).Covers s
      (addToSp .hl e s) :=
  covers_still rfl (fun r hr => by simp [State.setPair, reg_setHL_unwritten hh hl _ r hr]) rfl (.refl _ _) rfl

theorem covers_addToHL (hh : w .h = true) (hl : w .l = true) (p : Pair) :
    (Footprint.mk ⟨.cleared, .computed, .cleared, .computed, .computed⟩ w false false false [] false none).Covers s
      (addToHL p s) :=
  covers_still rfl (fun r hr => by simp [reg_setHL_unwritten hh hl _ r hr]) rfl (.refl _ _) rfl

/-! ### Bytes -/

/-- May the operand of the register field be written? The byte at HL is no register. -/
def Operand8.writableIn (w : Reg8 → Bool) : Operand8 → Bool
  | .reg r => w r
  | .indHL => true

/-- The addresses a write of the operand stores to. -/
def Operand8.stores (s : State) : Operand8 → List Nat
  | .reg _ => []
  | .indHL => [s.hl.toNat]

theorem flags_writeOperand (s : State) (o : Operand8) (v : Byte) : (s.writeOperand o v).flags = s.flags := by
  cases o <;> simp [State.writeOperand]

theorem sp_writeOperand (s : State) (o : Operand8) (v : Byte) : (s.writeOperand o v).sp = s.sp := by
  cases o <;> simp [State.writeOperand]

theorem halted_writeOperand (s : State) (o : Operand8) (v : Byte) : (s.writeOperand o v).halted = s.halted := by
  cases o <;> simp [State.writeOperand]

theorem changedAt_writeOperand (s : State) (o : Operand8) (v : Byte) :
    s.mem.ChangedAt (Operand8.stores s o) (s.writeOperand o v).mem := by
  cases o with
  | reg r => simp [State.writeOperand, Memory.ChangedAt.refl]
  | indHL => exact (Memory.ChangedAt.refl _ _).write (by simp [Operand8.stores]) s.hl.isLt v

theorem reg_writeOperand_unwritten {o : Operand8} (hw : Operand8.writableIn w o = true) (v : Byte) (q : Reg8)
    (hq : w q = false) : (s.writeOperand o v).reg q = s.reg q := by
  cases o with
  | reg r => exact reg_setReg_unwritten hw v q hq
  | indHL => exact State.reg_writeByte ..

/-- Every operation that writes one operand and the flags. -/
theorem covers_writeOperand {row : FlagRow} {o : Operand8} (hw : Operand8.writableIn w o = true) (v : Byte) {f : Flags}
    (hflags : row.allows s.flags f = true) (len : Nat) :
    (Footprint.mk row w false false false (Operand8.stores s o) false none).Covers s
      (.next (((s.writeOperand o v).setFlags f).advance len)) :=
  covers_still hflags (by simpa using reg_writeOperand_unwritten hw v) (sp_writeOperand s o v)
    (changedAt_writeOperand s o v) (halted_writeOperand s o v)

theorem covers_incOperand {o : Operand8} (hw : Operand8.writableIn w o = true) :
    (Footprint.mk ⟨.computed, .kept, .computed, .computed, .computed⟩ w false false false (Operand8.stores s o) false
      none).Covers s (incOperand o s) :=
  covers_writeOperand hw _ (by simp [FlagRow.allows, FlagEffect.allows, inc8, szp]) 1

theorem covers_decOperand {o : Operand8} (hw : Operand8.writableIn w o = true) :
    (Footprint.mk ⟨.computed, .kept, .computed, .computed, .computed⟩ w false false false (Operand8.stores s o) false
      none).Covers s (decOperand o s) :=
  covers_writeOperand hw _ (by simp [FlagRow.allows, FlagEffect.allows, dec8, szp]) 1

theorem covers_rotateOperand (op : RotOp) {o : Operand8} (hw : Operand8.writableIn w o = true) :
    (Footprint.mk ⟨.computed, .computed, .computed, .cleared, .computed⟩ w false false false (Operand8.stores s o) false
      none).Covers s (rotateOperand op o s) :=
  covers_writeOperand hw _ rfl 2

theorem covers_swapOperand {o : Operand8} (hw : Operand8.writableIn w o = true) :
    (Footprint.mk ⟨.computed, .cleared, .computed, .cleared, .computed⟩ w false false false (Operand8.stores s o) false
      none).Covers s (rotateOperand .swap o s) :=
  covers_writeOperand hw _ rfl 2

theorem covers_testBit (b : Fin 8) (o : Operand8) :
    (Footprint.mk ⟨.computed, .kept, .computed, .raised, .computed⟩ w false false false [] false none).Covers s
      (testBit b o s) :=
  covers_still (by simp [FlagRow.allows, FlagEffect.allows, bitFlags, szp]) (by simp) rfl (.refl _ _) rfl

/-- RES and SET: the operand is written and no flag is. -/
theorem covers_writeOperand_keep {o : Operand8} (hw : Operand8.writableIn w o = true) (v : Byte) :
    (Footprint.mk .keep w false false false (Operand8.stores s o) false none).Covers s
      (.next ((s.writeOperand o v).advance 2)) :=
  covers_still (by simp [flags_writeOperand]) (by simpa using reg_writeOperand_unwritten hw v) (sp_writeOperand s o v)
    (changedAt_writeOperand s o v) (halted_writeOperand s o v)

/-! ### The accumulator -/

theorem covers_writeA {row : FlagRow} (hw : w .a = true) {res : Byte × Flags} (hflags : row.allows s.flags res.2 = true) :
    (Footprint.mk row w false false false [] false none).Covers s (writeA res s) :=
  covers_still hflags (by simpa using reg_setReg_unwritten hw res.1) rfl (.refl _ _) rfl

theorem covers_cpl (hw : w .a = true) :
    (Footprint.mk ⟨.kept, .kept, .kept, .raised, .kept⟩ w false false false [] false none).Covers s (execCpl s) :=
  covers_writeA hw (by simp [FlagRow.allows, FlagEffect.allows])

/-- SCF and CCF write A's own value to A. -/
theorem covers_writeFlags {row : FlagRow} {f : Flags} (hflags : row.allows s.flags f = true) :
    (Footprint.mk row w false false false [] false none).Covers s (writeA (s.a, f) s) :=
  covers_still hflags (fun _ _ => rfl) rfl (.refl _ _) rfl

theorem covers_scf :
    (Footprint.mk ⟨.kept, .raised, .kept, .cleared, .kept⟩ w false false false [] false none).Covers s (execScf s) :=
  covers_writeFlags (by simp [FlagRow.allows, FlagEffect.allows])

theorem covers_ccf :
    (Footprint.mk ⟨.kept, .computed, .kept, .cleared, .kept⟩ w false false false [] false none).Covers s (execCcf s) :=
  covers_writeFlags (by simp [FlagRow.allows, FlagEffect.allows])

theorem covers_rotateA (hw : w .a = true) (op : RotOp) :
    (Footprint.mk ⟨.cleared, .computed, .cleared, .cleared, .cleared⟩ w false false false [] false none).Covers s
      (rotateA op s) :=
  covers_still rfl (by simpa using reg_setReg_unwritten hw _) rfl (.refl _ _) rfl

/-- The rows of the 8-bit ALU operations (R26). -/
def aluRow : AluOp → FlagRow
  | .and => ⟨.computed, .cleared, .computed, .raised, .computed⟩
  | .xor | .or => ⟨.computed, .cleared, .computed, .cleared, .computed⟩
  | .add | .adc | .sub | .sbc | .cp => ⟨.computed, .computed, .computed, .computed, .computed⟩

theorem aluRow_allows (op : AluOp) (a v : Byte) (c : Bool) (old : Flags) :
    (aluRow op).allows old (aluResult op a v c).2 = true := by
  cases op <;> rfl

theorem covers_aluStep {op : AluOp} (hw : op = .cp ∨ w .a = true) (src : Source8) :
    (Footprint.mk (aluRow op) w false false false [] false none).Covers s (aluStep op src s) := by
  refine covers_still (aluRow_allows ..) (fun q hq => ?_) rfl (.refl _ _) rfl
  rcases hw with rfl | hw
  · change (s.setReg .a (s.reg .a)).reg q = s.reg q
    rw [State.setReg_reg]
  · simpa using reg_setReg_unwritten hw _ q hq

/-! ### The latch -/

theorem covers_halt : (Footprint.mk .keep w false false false [] true none).Covers s (execHalt s) :=
  ⟨_, rfl, by simp, fun _ _ => rfl, fun _ _ _ => rfl, nofun, nofun, .refl _ _, (Bool.or_true _).symm⟩

/-! ### Checked accesses -/

theorem covers_storeSp (nn : Word) {fault : Option Int}
    (hfault : fault = if nn.toNat = 0xFFFF then some 0x10000 else none) :
    (Footprint.mk .keep w false false false [nn.toNat, nn.toNat + 1] false fault).Covers s (storeSp nn s) := by
  have hnn := nn.isLt
  subst hfault
  unfold Footprint.Covers
  by_cases h : nn.toNat = 0xFFFF
  · simp only [if_pos h, storeSp_fault s nn h]
  · simp only [if_neg h]
    refine ⟨_, storeSp_ok s nn (by omega), by simp, fun _ _ => rfl, fun _ _ _ => rfl, nofun, nofun, ?_,
      (Bool.or_false _).symm⟩
    exact ((Memory.ChangedAt.refl _ _).write (by simp) hnn _).write (by simp) (show nn.toNat + 1 < 65536 by omega) _

/-- Every outcome of a push. -/
theorem covers_push {r : Result} {hi lo : Byte} {pc : Word}
    (hok : 2 ≤ s.sp.toNat → r = .next { s with mem := s.pushedMem hi lo, sp := s.sp - 2#16, pc := pc })
    (hfault : s.sp.toNat < 2 → r = .fault (.boundsViolation (-1))) :
    (Footprint.mk .keep w false true false [s.sp.toNat - 1, s.sp.toNat - 2] false
      (stackFault true false s.sp.toNat)).Covers s r := by
  have hsp := s.sp.isLt
  unfold Footprint.Covers
  by_cases h : s.sp.toNat < 2
  · simp [stackFault, h, hfault]
  · simp only [stackFault, h, Bool.false_eq_true, false_and, and_false, if_false]
    refine ⟨_, hok (by omega), by simp, fun _ _ => rfl, nofun, fun _ => rfl, nofun, ?_, (Bool.or_false _).symm⟩
    exact ((Memory.ChangedAt.refl _ _).write (by simp) (show s.sp.toNat - 1 < 65536 by omega) _).write (by simp)
      (show s.sp.toNat - 2 < 65536 by omega) _

/-- Every outcome of a pop. -/
theorem covers_pop {r : Result} {row : FlagRow} {t : State} (hok : s.sp.toNat < 0xFFFF → r = .next t)
    (hfault : s.sp.toNat = 0xFFFF → r = .fault (.boundsViolation 0x10000)) (hflags : row.allows s.flags t.flags = true)
    (hreg : ∀ r, w r = false → t.reg r = s.reg r) (hsp : t.sp = s.sp + 2#16) (hmem : t.mem = s.mem)
    (hhalted : t.halted = s.halted) :
    (Footprint.mk row w false false true [] false (stackFault false true s.sp.toNat)).Covers s r := by
  have hlt := s.sp.isLt
  unfold Footprint.Covers
  by_cases h : s.sp.toNat = 0xFFFF
  · simp [stackFault, h, hfault]
  · simp only [stackFault, h, Bool.false_eq_true, false_and, and_false, if_false]
    exact ⟨t, hok (by omega), hflags, hreg, nofun, nofun, fun _ => hsp, hmem ▸ .refl _ _, by rw [hhalted, Bool.or_false]⟩

theorem covers_pushWord (v : Word) :
    (Footprint.mk .keep w false true false [s.sp.toNat - 1, s.sp.toNat - 2] false
      (stackFault true false s.sp.toNat)).Covers s (pushWord v s) :=
  covers_push (pushWord_ok s v) (pushWord_fault s v)

theorem covers_callTo (ret target : Word) :
    (Footprint.mk .keep w false true false [s.sp.toNat - 1, s.sp.toNat - 2] false
      (stackFault true false s.sp.toNat)).Covers s (callTo s ret target) :=
  covers_push (callTo_ok s ret target) (callTo_fault s ret target)

theorem covers_callIf (cc : Cond) (nn : Word) :
    (Footprint.mk .keep w false (condHolds s.flags cc) false
      (if condHolds s.flags cc then [s.sp.toNat - 1, s.sp.toNat - 2] else []) false
      (stackFault (condHolds s.flags cc) false s.sp.toNat)).Covers s (callIf cc nn s) := by
  unfold callIf
  cases condHolds s.flags cc with
  | true => exact covers_callTo _ nn
  | false => exact covers_advance 3

theorem covers_popPair (p : Fin 3) :
    (Footprint.mk .keep (regInPair · p) false false true [] false (stackFault false true s.sp.toNat)).Covers s
      (popPair (pairOf p.castSucc) s) :=
  covers_pop (popPair_ok s _) (popPair_fault s _) (by simp)
    (fun r hr => (State.reg_advance ..).trans (reg_setPair_unwritten p _ r hr)) (sp_setPair_view p _) (by simp) (by simp)

theorem covers_popAfWith (hw : w .a = true) (p : FlagPacking) :
    (Footprint.mk ⟨.computed, .computed, .computed, .computed, .computed⟩ w false false true [] false
      (stackFault false true s.sp.toNat)).Covers s (popAfWith p s) :=
  covers_pop (popAfWith_ok s p) (popAfWith_fault s p) rfl (reg_setReg_unwritten hw _) rfl rfl rfl

theorem covers_returnToCaller :
    (Footprint.mk .keep w false false true [] false (stackFault false true s.sp.toNat)).Covers s (returnToCaller s) :=
  covers_pop (returnToCaller_ok s) (returnToCaller_fault s) (by simp) (fun _ _ => rfl) rfl rfl rfl

theorem covers_returnIf (cc : Cond) :
    (Footprint.mk .keep w false false (condHolds s.flags cc) [] false
      (stackFault false (condHolds s.flags cc) s.sp.toNat)).Covers s (returnIf cc s) := by
  unfold returnIf
  cases condHolds s.flags cc with
  | true => exact covers_returnToCaller
  | false => exact covers_advance 1

end

/-! ### The footprint of an instruction, by its opcode -/

/-- The table of addresses (R56), for the bytes of an instruction. -/
def storesAt (op : Nat) (n : Byte) (nn : Word) (s : State) : List Nat :=
  if [0x70, 0x71, 0x72, 0x73, 0x74, 0x75, 0x77, 0x36, 0x34, 0x35, 0x22, 0x32].contains op then [s.hl.toNat]
  else if op = 0x02 then [s.bc.toNat]
  else if op = 0x12 then [s.de.toNat]
  else if op = 0xEA then [nn.toNat]
  else if op = 0xE0 then [0xFF00 + n.toNat]
  else if op = 0xE2 then [0xFF00 + s.c.toNat]
  else if op = 0x08 then [nn.toNat, nn.toNat + 1]
  else if opcodePushes op s.flags then [s.sp.toNat - 1, s.sp.toNat - 2]
  else if op = 0xCB ∧ n.toNat % 8 = 6 ∧ n.toNat / 64 ≠ 1 then [s.hl.toNat]
  else []

theorem storedAddresses_eq (s : State) : storedAddresses s = storesAt s.opcode s.second s.imm16 s := rfl

/-- The footprint the tables give the opcode `op` followed by the byte `n` and the word `nn`. -/
def footprintAt (op : Nat) (n : Byte) (nn : Word) (s : State) : Footprint where
  flags := flagRow op n.toNat
  regs := opcodeWritesReg op n.toNat
  loadsSp := [0x31, 0x33, 0x3B, 0xF9, 0xE8].contains op
  pushes := opcodePushes op s.flags
  pops := opcodePops op s.flags
  stores := storesAt op n nn s
  halts := decide (op = 0x76)
  fault := if op = 0x08 ∧ nn.toNat = 0xFFFF then some 0x10000
    else stackFault (opcodePushes op s.flags) (opcodePops op s.flags) s.sp.toNat

/-- However the entry is completed, its meaning keeps within the footprint of the opcode. -/
def CoveredAt (op : Byte) (e : BaseEntry) : Prop :=
  ∀ n nn s, (footprintAt op.toNat n nn s).Covers s (exec (e.complete n nn) s)

theorem coveredAt_x0 (y z : Fin 8) : CoveredAt (byteOf 0 y z) (baseEntry (byteOf 0 y z)) := fun n nn s =>
  match z with
  | 0 =>
    match y with
    | 0 => covers_advance 1
    | 1 => covers_storeSp nn (if_congr (and_iff_right rfl) rfl rfl)
    | 2 => covers_advance 2
    | 3 => covers_jumpTo _
    | 4 => covers_jumpIf .nz _ 2
    | 5 => covers_jumpIf .z _ 2
    | 6 => covers_jumpIf .nc _ 2
    | 7 => covers_jumpIf .c _ 2
  | 1 =>
    match y with
    | 0 => covers_loadPair 0 nn 3
    | 2 => covers_loadPair 1 nn 3
    | 4 => covers_loadPair 2 nn 3
    | 6 => covers_loadSp nn 3
    | 1 | 3 | 5 | 7 => covers_addToHL rfl rfl _
  | 2 =>
    match y with
    | 0 | 2 => covers_storeByte rfl _ 1
    | 1 | 3 => covers_loadReg rfl _ 1
    | 4 | 6 => covers_storeAtHLThen rfl rfl _
    | 5 | 7 => covers_loadAtHLThen rfl rfl rfl _
  | 3 =>
    match y with
    | 0 | 1 => covers_stepPair 0 _
    | 2 | 3 => covers_stepPair 1 _
    | 4 | 5 => covers_stepPair 2 _
    | 6 | 7 => covers_stepSp _
  | 4 => by fin_cases y <;> exact covers_incOperand rfl
  | 5 => by fin_cases y <;> exact covers_decOperand rfl
  | 6 =>
    match y with
    | 0 | 1 | 2 | 3 | 4 | 5 | 7 => covers_loadReg rfl n 2
    | 6 => covers_storeByte rfl n 2
  | 7 =>
    match y with
    | 0 | 1 | 2 | 3 => covers_rotateA rfl _
    | 4 => covers_writeA rfl rfl
    | 5 => covers_cpl rfl
    | 6 => covers_scf
    | 7 => covers_ccf

theorem coveredAt_x1 (y z : Fin 8) : CoveredAt (byteOf 1 y z) (baseEntry (byteOf 1 y z)) := fun n nn s =>
  match y with
  | 6 =>
    match z with
    | 6 => covers_halt
    | 0 | 1 | 2 | 3 | 4 | 5 | 7 => covers_storeByte rfl _ 1
  | 0 | 1 | 2 | 3 | 4 | 5 | 7 => by fin_cases z <;> exact covers_loadReg rfl _ 1

theorem coveredAt_x2 (y z : Fin 8) : CoveredAt (byteOf 2 y z) (baseEntry (byteOf 2 y z)) := fun n nn s =>
  match y with
  | 7 => by fin_cases z <;> exact covers_aluStep (.inl rfl) _
  | 0 | 1 | 2 | 3 | 4 | 5 | 6 => by fin_cases z <;> exact covers_aluStep (.inr rfl) _

theorem toNat_highPage (n : Byte) : (highPage n).toNat = 0xFF00 + n.toNat := toNat_wordOf 0xFF#8 n

/-- The extended opcodes; BIT stores nothing and writes no register. -/
theorem covers_extendedEntry (x : Fin 4) (y z : Fin 8) (nn : Word) (s : State) :
    (footprintAt 0xCB (byteOf x y z) nn s).Covers s (exec (extendedEntry (byteOf x y z)) s) :=
  match x with
  | 0 =>
    match y with
    | 6 => by fin_cases z <;> exact covers_swapOperand rfl
    | 0 | 1 | 2 | 3 | 4 | 5 | 7 => by fin_cases z <;> exact covers_rotateOperand _ rfl
  | 1 => by fin_cases y <;> fin_cases z <;> exact covers_testBit ..
  | 2 | 3 => by fin_cases y <;> fin_cases z <;> exact covers_writeOperand_keep rfl _

theorem coveredAt_pre : CoveredAt 0xCB .pre := fun n nn s => by
  rw [← byteOf_fields n]
  exact covers_extendedEntry ..

theorem coveredAt_x3 (y z : Fin 8) : CoveredAt (byteOf 3 y z) (baseEntry (byteOf 3 y z)) := fun n nn s =>
  match z with
  | 0 =>
    match y with
    | 0 => covers_returnIf .nz
    | 1 => covers_returnIf .z
    | 2 => covers_returnIf .nc
    | 3 => covers_returnIf .c
    | 4 => covers_storeByte (toNat_highPage n) _ 2
    | 5 => covers_addToSp n
    | 6 => covers_loadReg rfl _ 2
    | 7 => covers_addToSp_hl rfl rfl n
  | 1 =>
    match y with
    | 0 => covers_popPair 0
    | 2 => covers_popPair 1
    | 4 => covers_popPair 2
    | 6 => covers_popAfWith rfl _
    | 1 | 3 => covers_returnToCaller
    | 5 => covers_jumpTo _
    | 7 => covers_loadSp _ 1
  | 2 =>
    match y with
    | 0 => covers_jumpIf .nz nn 3
    | 1 => covers_jumpIf .z nn 3
    | 2 => covers_jumpIf .nc nn 3
    | 3 => covers_jumpIf .c nn 3
    | 4 => covers_storeByte (toNat_highPage s.c) _ 1
    | 5 => covers_storeByte rfl _ 3
    | 6 => covers_loadReg rfl _ 1
    | 7 => covers_loadReg rfl _ 3
  | 3 =>
    match y with
    | 0 => covers_jumpTo nn
    | 1 => coveredAt_pre n nn s
    | 2 | 3 | 4 | 5 | 6 | 7 => covers_advance 1
  | 4 =>
    match y with
    | 0 => covers_callIf .nz nn
    | 1 => covers_callIf .z nn
    | 2 => covers_callIf .nc nn
    | 3 => covers_callIf .c nn
    | 4 | 5 | 6 | 7 => covers_advance 1
  | 5 =>
    match y with
    | 0 | 2 | 4 | 6 => covers_pushWord _
    | 1 => covers_callTo _ nn
    | 3 | 5 | 7 => covers_advance 1
  | 6 =>
    match y with
    | 7 => covers_aluStep (.inl rfl) (.imm n)
    | 0 | 1 | 2 | 3 | 4 | 5 | 6 => covers_aluStep (.inr rfl) (.imm n)
  | 7 => by fin_cases y <;> exact covers_callTo ..

theorem coveredAt_baseEntry (op : Byte) : CoveredAt op (baseEntry op) := by
  rw [← byteOf_fields op]
  generalize fieldX op = x
  match x with
  | 0 => exact coveredAt_x0 _ _
  | 1 => exact coveredAt_x1 _ _
  | 2 => exact coveredAt_x2 _ _
  | 3 => exact coveredAt_x3 _ _

/-! ### The footprint of a step -/

/-- The footprint of the instruction at PC. -/
def State.footprint (s : State) : Footprint := footprintAt s.opcode s.second s.imm16 s

theorem covers_instrAt (s : State) : s.footprint.Covers s (exec s.instrAt s) := by
  rw [State.instrAt_eq_complete]
  exact coveredAt_baseEntry _ _ _ s

/-- Everything a completed step can change. -/
theorem allows_of_step_next {s t : State} (h : step s = .next t) : s.footprint.Allows s t := by
  have hcov := covers_instrAt s
  rw [step_next h, Footprint.Covers] at hcov
  split at hcov
  · cases hcov
  · obtain ⟨u, hu, hallows⟩ := hcov
    cases hu
    exact hallows

/-- The fetch reads the bytes of the length table, but not the padding byte of STOP (R65, R99). -/
theorem fetched_eq_gridLength : ∀ op : Byte,
    (baseEntry op).format.fetched = if op.toNat = 0x10 then 1 else gridLength op.toNat := by decide

/-- The cause table (R300, R304): first the fetch, then the footprint of the instruction at PC. -/
theorem faultAddress_eq (s : State) : faultAddress s =
    if s.pc.toNat + s.fetchLength ≤ 0x10000 then s.footprint.fault else some 0x10000 := by
  have hpc := s.pc.isLt
  have hbounds : 1 ≤ s.fetchLength ∧ s.fetchLength ≤ 3 := Format.fetched_pos _
  have hlen : s.fetchLength = if s.opcode = 0x10 then 1 else gridLength s.opcode := fetched_eq_gridLength _
  have hfit : s.pc.toNat + s.fetchLength ≤ 0x10000 ↔ ¬ (gridLength s.opcode = 3 ∧ s.pc.toNat ≥ 0xFFFE) ∧
      ¬ (gridLength s.opcode = 2 ∧ s.opcode ≠ 0x10 ∧ s.pc.toNat = 0xFFFF) := by
    by_cases hstop : s.opcode = 0x10
    · rw [if_pos hstop] at hlen
      have hgrid : gridLength s.opcode = 2 := by rw [hstop]; rfl
      omega
    · rw [if_neg hstop] at hlen
      omega
  unfold faultAddress
  by_cases hin : s.pc.toNat + s.fetchLength ≤ 0x10000
  · obtain ⟨hthree, htwo⟩ := hfit.mp hin
    simp only [if_pos hin, if_neg hthree, if_neg htwo]
    rfl
  · rw [if_neg hin]
    by_cases hthree : gridLength s.opcode = 3 ∧ s.pc.toNat ≥ 0xFFFE
    · exact if_pos hthree
    · have htwo : gridLength s.opcode = 2 ∧ s.opcode ≠ 0x10 ∧ s.pc.toNat = 0xFFFF := by
        by_contra hno
        exact hin (hfit.mpr ⟨hthree, hno⟩)
      simp only [if_neg hthree, if_pos htwo]

end Sys2Proof.Machine
end

section
/-! The statements about what every step keeps and when it faults (spec/10_state.md R23 to R27, spec/20_memory.md R51, R56,
spec/60_exceptions.md R300): each reads its part off the footprint of the instruction at PC. -/

namespace Sys2Proof.Machine

/-- Settles O11: the fetch faults first, then the instruction as its footprint says. -/
theorem stepFaultsExactlyAsTheCauseTableSays : Obligations.StepFaultsExactlyAsTheCauseTableSays := by
  intro s
  have hcov := covers_instrAt s
  rw [faultAddress_eq, step_eq]
  by_cases hin : s.pc.toNat + s.fetchLength ≤ 0x10000
  · rw [if_pos hin, if_pos hin]
    unfold Footprint.Covers at hcov
    split at hcov
    · next addr hfault =>
      rw [hfault]
      exact ⟨fun _ h => Option.some.inj h ▸ hcov, nofun⟩
    · next hfault =>
      obtain ⟨t, ht, -⟩ := hcov
      rw [hfault]
      exact ⟨nofun, fun _ => ⟨t, ht⟩⟩
  · rw [if_neg hin, if_neg hin]
    exact ⟨fun _ h => Option.some.inj h ▸ rfl, nofun⟩

/-- Settles O12: every address of a footprint at which a step completes lies inside memory. -/
theorem everyStepKeepsTheMemoryForm : Obligations.EveryStepKeepsTheMemoryForm := fun _ _ hwf h =>
  (allows_of_step_next h).mem.wf hwf

/-- Settles O13. -/
theorem resetMemoryHasTheForm : Obligations.ResetMemoryHasTheForm := State.wf_reset

/-- Settles O17: the row of the flag table is the flag part of the footprint. -/
theorem flagsChangeAsTheFlagTableSays : Obligations.FlagsChangeAsTheFlagTableSays := fun _ _ h =>
  (allows_of_step_next h).flags

/-- Settles O18: the registers of the footprint. -/
theorem registersChangeOnlyWhereWritten : Obligations.RegistersChangeOnlyWhereWritten := fun _ _ r h hr =>
  (allows_of_step_next h).reg r hr

/-- Settles O19: SP is computed, pushed, popped or kept. -/
theorem stackPointerChangesOnlyWhereWritten : Obligations.StackPointerChangesOnlyWhereWritten := by
  intro s t h
  have hallows := allows_of_step_next h
  refine ⟨fun hkept => ?_, hallows.sp_pushed, hallows.sp_popped⟩
  simp only [opcodeWritesSp, Bool.or_eq_false_iff] at hkept
  obtain ⟨⟨hloads, hpushes⟩, hpops⟩ := hkept
  exact hallows.sp_kept hloads hpushes hpops

/-- Settles O20: the printed length table is the table of formats. -/
theorem pcAdvancesByTheLength : Obligations.PcAdvancesByTheLength := fun s _ h htr =>
  (pc_of_step_next htr h).trans (by rw [opLength_eq_gridLength]; rfl)

/-- Settles O21: the addresses of the footprint. -/
theorem memoryChangesOnlyWhereStored : Obligations.MemoryChangesOnlyWhereStored := by
  intro s t addr h haddr
  rw [storedAddresses_eq] at haddr
  exact (allows_of_step_next h).mem.read addr haddr

end Sys2Proof.Machine
end

section
/-! SUPPORT. Two runs of one instruction from states that differ in the latch and the flags only: what neither reads keeps the
outcomes in agreement (spec/10_state.md R25, R27). -/

namespace Sys2Proof.Machine

/-- The state with another latch and other flags. -/
def State.mask (s : State) (b : Bool) (f : Flags) : State := { s with halted := b, flags := f }

/-- The opcode at PC is the first byte of the instruction's encoding. -/
theorem encode_instrAt (s : State) : ∃ rest, encode s.instrAt = s.readByte s.pc :: rest :=
  ⟨_, (congrArg encode s.instrAt_eq_complete).trans (encodedAt_baseEntry ..)⟩

theorem opcode_of_instrAt_eq {s : State} {i : Instr} {op : Byte} {rest : List Byte} (henc : encode i = op :: rest)
    (h : s.instrAt = i) : s.opcode = op.toNat := by
  obtain ⟨tail, hs⟩ := encode_instrAt s
  rw [h, henc] at hs
  exact congrArg BitVec.toNat (List.cons.inj hs).1.symm

section
variable {s : State} {b : Bool} {f : Flags} {R : State → State → Prop}

theorem step_mask : step (s.mask b f) = if s.pc.toNat + s.fetchLength ≤ 0x10000 then exec s.instrAt (s.mask b f)
    else .fault (.boundsViolation 0x10000) := step_eq (s.mask b f)

/-- One instruction in agreement makes one step in agreement. -/
theorem agree_step (h : outcomesAgree R (exec s.instrAt s) (exec s.instrAt (s.mask b f))) :
    outcomesAgree R (step s) (step (s.mask b f)) := by
  rw [step_eq, step_mask]
  split
  · exact h
  · rfl

/-! ### The operations that do not complete in every state, or depend on a condition -/

theorem agree_popAfWith (hR : ∀ t, t.halted = s.halted → R t { t with halted := b }) (p : FlagPacking) :
    outcomesAgree R (popAfWith p s) (popAfWith p (s.mask b f)) := by
  have hlt := s.sp.isLt
  by_cases h : s.sp.toNat < 0xFFFF
  · rw [popAfWith_ok s p h, popAfWith_ok (s.mask b f) p h]
    exact hR _ rfl
  · rw [popAfWith_fault s p (by omega), popAfWith_fault (s.mask b f) p (show s.sp.toNat = 0xFFFF by omega)]
    rfl

variable (hR : ∀ t, t.flags = s.flags → t.halted = s.halted → R t (t.mask b f))
include hR

theorem agree_storeSp (nn : Word) : outcomesAgree R (storeSp nn s) (storeSp nn (s.mask b f)) := by
  have hlt := nn.isLt
  by_cases h : nn.toNat < 0xFFFF
  · rw [storeSp_ok s nn h, storeSp_ok (s.mask b f) nn h]
    exact hR _ rfl rfl
  · rw [storeSp_fault s nn (by omega), storeSp_fault (s.mask b f) nn (by omega)]
    rfl

theorem agree_pushWord (w : Word) : outcomesAgree R (pushWord w s) (pushWord w (s.mask b f)) := by
  by_cases h : 2 ≤ s.sp.toNat
  · rw [pushWord_ok s w h, pushWord_ok (s.mask b f) w h]
    exact hR _ rfl rfl
  · rw [pushWord_fault s w (by omega), pushWord_fault (s.mask b f) w (show s.sp.toNat < 2 by omega)]
    rfl

theorem agree_callTo (ret target : Word) : outcomesAgree R (callTo s ret target) (callTo (s.mask b f) ret target) := by
  by_cases h : 2 ≤ s.sp.toNat
  · rw [callTo_ok s ret target h, callTo_ok (s.mask b f) ret target h]
    exact hR _ rfl rfl
  · rw [callTo_fault s ret target (by omega), callTo_fault (s.mask b f) ret target (show s.sp.toNat < 2 by omega)]
    rfl

theorem agree_popPair (p : Pair) : outcomesAgree R (popPair p s) (popPair p (s.mask b f)) := by
  have hlt := s.sp.isLt
  by_cases h : s.sp.toNat < 0xFFFF
  · rw [popPair_ok s p h, popPair_ok (s.mask b f) p h]
    cases p <;> exact hR _ rfl rfl
  · rw [popPair_fault s p (by omega), popPair_fault (s.mask b f) p (show s.sp.toNat = 0xFFFF by omega)]
    rfl

theorem agree_returnToCaller : outcomesAgree R (returnToCaller s) (returnToCaller (s.mask b f)) := by
  have hlt := s.sp.isLt
  by_cases h : s.sp.toNat < 0xFFFF
  · rw [returnToCaller_ok s h, returnToCaller_ok (s.mask b f) h]
    exact hR _ rfl rfl
  · rw [returnToCaller_fault s (by omega), returnToCaller_fault (s.mask b f) (show s.sp.toNat = 0xFFFF by omega)]
    rfl

variable {cc : Cond} (hcond : condHolds f cc = condHolds s.flags cc)
include hcond

theorem agree_jumpIf (target : Word) (len : Nat) :
    outcomesAgree R (jumpIf cc target len s) (jumpIf cc target len (s.mask b f)) := by
  unfold jumpIf
  rw [show condHolds (s.mask b f).flags cc = condHolds s.flags cc from hcond]
  split <;> exact hR _ rfl rfl

theorem agree_callIf (nn : Word) : outcomesAgree R (callIf cc nn s) (callIf cc nn (s.mask b f)) := by
  unfold callIf
  rw [show condHolds (s.mask b f).flags cc = condHolds s.flags cc from hcond]
  split
  · exact agree_callTo hR ..
  · exact hR _ rfl rfl

theorem agree_returnIf : outcomesAgree R (returnIf cc s) (returnIf cc (s.mask b f)) := by
  unfold returnIf
  rw [show condHolds (s.mask b f).flags cc = condHolds s.flags cc from hcond]
  split
  · exact agree_returnToCaller hR
  · exact hR _ rfl rfl

end

/-! ### The latch -/

/-- The states are equal but for the latch, which is `b` in the second. -/
def equalButLatch (b : Bool) (s t : State) : Prop := t = { s with halted := b }

theorem equalButLatch_mask {s t : State} (b : Bool) (h : t.flags = s.flags) : equalButLatch b t (t.mask b s.flags) := by
  rw [← h]
  rfl

/-- No instruction but HALT depends on the latch or writes it. -/
theorem agree_exec_latch (i : Instr) (hwhole : i.wellFormed = true) (hi : i ≠ .halt) (b : Bool) (s : State) :
    outcomesAgree (equalButLatch b) (exec i s) (exec i (s.mask b s.flags)) := by
  have hR : ∀ t : State, t.flags = s.flags → t.halted = s.halted → equalButLatch b t (t.mask b s.flags) :=
    fun t h _ => equalButLatch_mask b h
  cases i with
  | halt => exact absurd rfl hi
  | prefixCB => cases hwhole
  | ldIndNN_SP nn => exact agree_storeSp hR nn
  | pushBC | pushDE | pushHL | pushAF => exact agree_pushWord hR _
  | popBC | popDE | popHL => exact agree_popPair hR _
  | popAF => exact agree_popAfWith (R := equalButLatch b) (fun _ _ => rfl) _
  | jrNZ_e | jrZ_e | jrNC_e | jrC_e | jpNZ_nn | jpZ_nn | jpNC_nn | jpC_nn => exact agree_jumpIf hR rfl ..
  | call_nn | rst00 | rst08 | rst10 | rst18 | rst20 | rst28 | rst30 | rst38 => exact agree_callTo hR ..
  | callNZ_nn | callZ_nn | callNC_nn | callC_nn => exact agree_callIf hR rfl _
  | ret | reti => exact agree_returnToCaller hR
  | retNZ | retZ | retNC | retC => exact agree_returnIf hR rfl
  | _ => exact rfl

/-! ### Sign and Parity -/

/-- The flags with another Sign and another Parity. -/
def Flags.withSignParity (f : Flags) (sign parity : Bool) : Flags := { f with fS := sign, fP := parity }

theorem condHolds_withSignParity (f : Flags) (sign parity : Bool) (cc : Cond) :
    condHolds (f.withSignParity sign parity) cc = condHolds f cc := by
  cases cc <;> rfl

/-- No instruction but PUSH AF depends on Sign or Parity. -/
theorem agree_exec_signParity (i : Instr) (hwhole : i.wellFormed = true) (hi : i ≠ .pushAF) (sign parity : Bool) (s : State) :
    outcomesAgree equalButSignParity (exec i s) (exec i (s.mask s.halted (s.flags.withSignParity sign parity))) := by
  have hR : ∀ t : State, t.flags = s.flags → t.halted = s.halted →
      equalButSignParity t (t.mask s.halted (s.flags.withSignParity sign parity)) := by
    intro t hflags hhalted
    rw [← hflags, ← hhalted]
    rfl
  have hcond := fun cc => condHolds_withSignParity s.flags sign parity cc
  cases i with
  | pushAF => exact absurd rfl hi
  | prefixCB => cases hwhole
  | ldIndNN_SP nn => exact agree_storeSp hR nn
  | pushBC | pushDE | pushHL => exact agree_pushWord hR _
  | popBC | popDE | popHL => exact agree_popPair hR _
  | popAF => exact agree_popAfWith (fun t ht => by rw [← ht]; rfl) _
  | jrNZ_e | jrZ_e | jrNC_e | jrC_e | jpNZ_nn | jpZ_nn | jpNC_nn | jpC_nn => exact agree_jumpIf hR (hcond _) ..
  | call_nn | rst00 | rst08 | rst10 | rst18 | rst20 | rst28 | rst30 | rst38 => exact agree_callTo hR ..
  | callNZ_nn | callZ_nn | callNC_nn | callC_nn => exact agree_callIf hR (hcond _) _
  | ret | reti => exact agree_returnToCaller hR
  | retNZ | retZ | retNC | retC => exact agree_returnIf hR (hcond _)
  | _ => exact rfl

/-! ### The statements -/

/-- Settles O15: the latch part of the footprint, and two runs that differ in the latch. -/
theorem onlyHaltSetsTheLatch : Obligations.OnlyHaltSetsTheLatch := by
  refine ⟨fun s t h => (allows_of_step_next h).halted, fun s b => ?_, isHalted_eq⟩
  refine agree_step (s := s) (b := b) (f := s.flags) ?_
  by_cases hop : s.opcode = 0x76
  · have hbyte : s.readByte s.pc = 0x76#8 := BitVec.eq_of_toNat_eq hop
    have hi : s.instrAt = .halt := by rw [State.instrAt_eq_complete, hbyte]; rfl
    rw [hi, hop]
    simp [outcomesAgree, exec, execHalt, State.mask, State.advance]
  · have hi : s.instrAt ≠ .halt := fun h => hop (opcode_of_instrAt_eq (op := 0x76) rfl h)
    simp only [hop, decide_false, Bool.or_false]
    exact agree_exec_latch _ s.wellFormed_instrAt hi b s

/-- Settles O16: two runs that differ in Sign and Parity. -/
theorem signAndParityReachOnlyPushAf : Obligations.SignAndParityReachOnlyPushAf := fun s sign parity hop =>
  have hi : s.instrAt ≠ .pushAF := fun h => hop (opcode_of_instrAt_eq (op := 0xF5) rfl h)
  agree_step (agree_exec_signParity _ s.wellFormed_instrAt hi sign parity s)

end Sys2Proof.Machine
end

section
/-! SUPPORT. Halves, sums and bits in plain numbers (spec/00_scope.md R9, R10): what the statements about results
say of words and displacements. -/

namespace Sys2Proof.Machine

theorem hi8_eq_ofNat (w : Word) : hi8 w = BitVec.ofNat 8 (w.toNat / 256) := by
  rw [← hi8_ofNat, BitVec.ofNat_toNat, BitVec.setWidth_eq]

theorem lo8_eq_ofNat (w : Word) : lo8 w = BitVec.ofNat 8 w.toNat := by
  rw [← lo8_ofNat, BitVec.ofNat_toNat, BitVec.setWidth_eq]

theorem add_one_eq_ofNat (w : Word) : w + 1#16 = BitVec.ofNat 16 (w.toNat + 1) := by bv_omega

theorem sub_one_eq_ofNat (w : Word) : w - 1#16 = BitVec.ofNat 16 (w.toNat + 65535) := by bv_omega

/-- A word plus a displacement is the integer sum mod 65536 (R10, R88). -/
theorem add_sext16 (w : Word) (e : Byte) : w + sext16 e = BitVec.ofInt 16 (w.toNat + e.toInt) := by
  rw [BitVec.ofInt_add, BitVec.ofInt_natCast, BitVec.ofNat_toNat, BitVec.setWidth_eq]
  rfl

theorem relativeTarget_eq (e : Byte) (s : State) :
    relativeTarget e s = BitVec.ofInt 16 (s.pc.toNat + 2 + e.toInt) := by
  rw [BitVec.ofInt_add, BitVec.ofInt_add, BitVec.ofInt_natCast, BitVec.ofNat_toNat, BitVec.setWidth_eq]
  rfl

/-- A bit of a byte as a number. -/
theorem getLsbD_eq_decide (v : Byte) (i : Nat) : v.getLsbD i = decide (v.toNat / 2 ^ i % 2 = 1) := by
  rw [BitVec.getLsbD, Nat.testBit_eq_decide_div_mod_eq]

theorem condHolds_eq_takenWhen (f : Flags) (cc : Cond) : condHolds f cc = takenWhen cc f := by
  cases cc <;> simp [condHolds, takenWhen]

theorem State.advance_setReg (s : State) (r : Reg8) (v : Byte) (n : Nat) :
    (s.setReg r v).advance n = { s.setReg r v with pc := s.pc + BitVec.ofNat 16 n } := by
  cases r <;> rfl

theorem State.advance_setPair (s : State) (p : Pair) (w : Word) (n : Nat) :
    (s.setPair p w).advance n = { s.setPair p w with pc := s.pc + BitVec.ofNat 16 n } := by
  cases p <;> rfl

/-- The step at a known opcode. -/
theorem step_of_opcode {s : State} {op : Byte} (h : s.opcode = op.toNat) :
    step s = if s.pc.toNat + (baseEntry op).format.fetched ≤ 0x10000 then
      exec ((baseEntry op).complete s.second s.imm16) s else .fault (.boundsViolation 0x10000) := by
  have hbyte : s.readByte s.pc = op := BitVec.eq_of_toNat_eq h
  rw [step_eq, State.fetchLength, State.instrAt_eq_complete, hbyte]

end Sys2Proof.Machine
end

section
/-! The state, the 8-bit loads, the 16-bit loads and the stack (spec/10_state.md R20, R21, R31, spec/40_loads_8bit.md,
spec/41_loads_16bit_stack.md): the next state of each family in plain numbers. -/

namespace Sys2Proof.Machine

/-! ### State -/

/-- Settles O14. -/
theorem resetIsAllZero : Obligations.ResetIsAllZero :=
  ⟨fun r => by cases r <;> rfl, rfl, rfl, rfl, rfl, fun _ => rfl⟩

/-- Settles O24: the views are concatenations, and a pair's write goes to the two halves. -/
theorem pairsAreViewsOfTheirHalves : Obligations.PairsAreViewsOfTheirHalves := by
  refine fun s w v => ⟨toNat_wordOf .., toNat_wordOf .., toNat_wordOf .., ?_, ?_, ?_, rfl, toNat_wordOf ..,
    fun r q => State.reg_setReg s r q v⟩ <;>
    rw [← hi8_eq_ofNat, ← lo8_eq_ofNat] <;> rfl

/-! ### 8-bit loads -/

theorem loadReg_next (r : Reg8) (v : Byte) (len : Nat) (s : State) :
    loadReg r v len s = .next { s.setReg r v with pc := s.pc + BitVec.ofNat 16 len } := by
  rw [loadReg, State.advance_setReg]

/-- Settles O25. -/
theorem ldRegisterFromRegister : Obligations.LdRegisterFromRegister := fun x y s => by
  rw [exec_ld, loadReg_next]

/-- Settles O26. -/
theorem ldRegisterImmediate : Obligations.LdRegisterImmediate := fun r n s => by
  rw [exec_ldImm, loadReg_next]

/-- Settles O27. -/
theorem loadsAndStoresThroughHL : Obligations.LoadsAndStoresThroughHL := by
  refine fun r n s => ⟨?_, exec_ldStore r s, rfl⟩
  rw [exec_ldLoad, loadReg_next]
  rfl

/-- Settles O28: each instruction is one move and an advance of PC. -/
theorem loadsAndStoresOfAThroughBcDeAndAbsolute : Obligations.LoadsAndStoresOfAThroughBcDeAndAbsolute :=
  fun _ _ => ⟨rfl, rfl, rfl, rfl, rfl, rfl⟩

/-- Settles O29: the address 0xFF00 + n does not leave memory. -/
theorem highPageLoadsAndStores : Obligations.HighPageLoadsAndStores := by
  intro n s
  rw [← toNat_highPage, ← toNat_highPage]
  exact ⟨rfl, rfl, rfl, rfl⟩

/-- Settles O30: the access takes the old HL. -/
theorem loadsAndStoresThatStepHL : Obligations.LoadsAndStoresThatStepHL := by
  intro s
  rw [← add_one_eq_ofNat, ← sub_one_eq_ofNat]
  exact ⟨rfl, rfl, rfl, rfl⟩

/-! ### 16-bit loads and the stack -/

/-- Settles O31. -/
theorem loadsOfPairsAndSp : Obligations.LoadsOfPairsAndSp := fun _ _ => ⟨rfl, rfl, rfl, rfl, rfl⟩

/-- Settles O32: the address of the high byte is not wrapped. -/
theorem storeOfSpIsLowByteFirst : Obligations.StoreOfSpIsLowByteFirst := fun nn s => ⟨storeSp_ok s nn, storeSp_fault s nn⟩

/-- The sum of SP and a displacement with its flags (R144, R214). -/
theorem addDisplacement_eq (sp : Word) (e : Byte) : addDisplacement sp e =
    (BitVec.ofInt 16 (sp.toNat + e.toInt), {
      fZ := false, fC := decide (sp.toNat % 256 + e.toNat > 0xFF), fS := false,
      fH := decide (sp.toNat % 16 + e.toNat % 16 > 0xF),
      fP := decide ((BitVec.ofInt 16 (sp.toNat + e.toInt)).toNat / 256 % 2 = 0) }) := by
  simp only [addDisplacement, add_sext16, ← not_getLsbD_eight_ofNat, BitVec.ofNat_toNat, BitVec.setWidth_eq]
  rfl

/-- Settles O33: both are the sum `addDisplacement`. -/
theorem spDisplacementSums : Obligations.SpDisplacementSums := by
  intro e s
  have hsum := addDisplacement_eq s.sp e
  refine ⟨?_, ?_⟩
  · change addToSp .hl e s = _
    rw [addToSp, hsum]
    rfl
  · change addToSp .sp e s = _
    rw [addToSp, hsum]
    rfl

/-- A push of a view stores its two registers. -/
theorem pushWord_wordOf_ok (s : State) (hi lo : Byte) (h : 2 ≤ s.sp.toNat) :
    pushWord (wordOf hi lo) s = .next { s with mem := s.pushedMem hi lo, sp := s.sp - 2#16, pc := s.pc + 1#16 } := by
  rw [pushWord_ok s _ h, hi8_wordOf, lo8_wordOf]

/-- Settles O34: PUSH and POP of a view move its two registers. -/
theorem pushAndPopOfPairs : Obligations.PushAndPopOfPairs := by
  refine fun s => ⟨fun h => ?_, fun h => ?_, fun h => ?_, fun h => ?_⟩
  · exact ⟨pushWord_wordOf_ok s _ _ h, pushWord_wordOf_ok s _ _ h, pushWord_wordOf_ok s _ _ h⟩
  · exact ⟨pushWord_fault s _ h, pushWord_fault s _ h, pushWord_fault s _ h⟩
  · refine ⟨(popPair_ok s .bc h).trans ?_, (popPair_ok s .de h).trans ?_, (popPair_ok s .hl h).trans ?_⟩ <;>
      simp only [State.setPair, State.setHL, hi8_wordOf, lo8_wordOf] <;> rfl
  · exact ⟨popPair_fault s .bc h, popPair_fault s .de h, popPair_fault s .hl h⟩

/-- The default packing as a number (R22). -/
theorem fpack_eq_ofNat (f : Flags) : fpack f = BitVec.ofNat 8 (f.fZ.toNat * 128 + f.fH.toNat * 32 + f.fC.toNat * 16 +
    f.fS.toNat * 8 + f.fP.toNat * 4) := by
  obtain ⟨z, c, s, h, p⟩ := f
  revert z c s h p
  decide

/-- Settles O35: the default packing in numbers, on the push and pop of AF. -/
theorem pushAndPopOfAf : Obligations.PushAndPopOfAf := by
  refine fun s => ⟨fun h => ?_, pushWord_fault s _, fun h => ?_, popAfWith_fault s _⟩
  · rw [← fpack_eq_ofNat]
    exact pushWord_wordOf_ok s s.a (fpack s.flags) h
  · refine (popAfWith_ok s flagPacking h).trans ?_
    simp only [flagPacking, funpack, getLsbD_eq_decide]
    rfl

end Sys2Proof.Machine
end

section
/-! The 8-bit arithmetic on memory and immediates, the subtractions, DAA and the complements (spec/42_alu_8bit.md), and the
increments of pairs (spec/43_alu_16bit.md R212, R213): results and flags in plain numbers. -/

namespace Sys2Proof.Machine

/-- Settles O38: the sums of the register form, with the other two operand forms. -/
theorem addAndAdcOfMemoryAndImmediate : Obligations.AddAndAdcOfMemoryAndImmediate := fun n s =>
  ⟨exec_add .indHL s, exec_adc .indHL s, exec_add (.imm n) s, exec_adc (.imm n) s⟩

/-- Settles O40: the bitwise operations of the register form, with the other two operand forms. -/
theorem logicalOperationsOnMemoryAndImmediate : Obligations.LogicalOperationsOnMemoryAndImmediate := fun n s =>
  ⟨exec_and .indHL s, exec_xor .indHL s, exec_or .indHL s, exec_and (.imm n) s, exec_xor (.imm n) s, exec_or (.imm n) s⟩

theorem sub8_eq_flagsOf (a v : Byte) (cin : Bool) :
    sub8 a v cin = (BitVec.ofInt 8 ((a.toNat : Int) - v.toNat - cin.toNat),
      flagsOf (BitVec.ofInt 8 ((a.toNat : Int) - v.toNat - cin.toNat)) (decide (a.toNat < v.toNat + cin.toNat))
        (decide (a.toNat % 16 < v.toNat % 16 + cin.toNat))) :=
  Prod.ext rfl (szp_eq_flagsOf ..)

/-- `CP` writes the flags and PC and nothing else. -/
theorem exec_cp (src : Source8) (s : State) :
    exec (Instr.alu .cp src) s = .next { s with
      flags := (sub8 s.a (s.readSource src) false).2, pc := s.pc + BitVec.ofNat 16 (sourceLength src) } :=
  exec_alu_next .cp src s

/-- Settles O41: the difference `sub8`, whatever the operand form. -/
theorem subtractionsAndComparisons : Obligations.SubtractionsAndComparisons := by
  intro src v s hv
  have hread : s.readSource src = v := by cases src <;> exact hv.symm
  refine ⟨?_, ?_, ?_⟩
  · rw [exec_alu_next, hread, aluResult, sub8_eq_flagsOf]
    cases src <;> rfl
  · rw [exec_alu_next, hread, aluResult, sub8_eq_flagsOf]
    cases src <;> rfl
  · rw [exec_cp, hread, sub8_eq_flagsOf]
    cases src <;> rfl

/-- The difference of two bytes is 0 only where they are equal. -/
theorem toNat_ofInt_sub_eq_zero (a v : Byte) : (BitVec.ofInt 8 ((a.toNat : Int) - v.toNat)).toNat = 0 ↔ a = v := by
  have ha := a.isLt
  have hv := v.isLt
  rw [BitVec.toNat_ofInt, BitVec.toNat_eq]
  omega

/-- Settles O42: Zero and Carry of the difference `sub8`. -/
theorem compareOrdersUnsignedBytes : Obligations.CompareOrdersUnsignedBytes := by
  refine fun src s => ⟨_, exec_cp src s, rfl, ?_, ?_⟩
  · rw [sub8_eq_flagsOf, ← toNat_ofInt_sub_eq_zero]
    simp [flagsOf]
  · rw [sub8_eq_flagsOf]
    simp [flagsOf]

theorem exec_incIndHL (s : State) : exec .incIndHL s = .next { s with
    mem := s.mem.write s.hl.toNat (inc8 (s.mem.read s.hl.toNat) s.flags).1
    flags := (inc8 (s.mem.read s.hl.toNat) s.flags).2, pc := s.pc + 1#16 } := rfl

theorem exec_decIndHL (s : State) : exec .decIndHL s = .next { s with
    mem := s.mem.write s.hl.toNat (dec8 (s.mem.read s.hl.toNat) s.flags).1
    flags := (dec8 (s.mem.read s.hl.toNat) s.flags).2, pc := s.pc + 1#16 } := rfl

/-- Settles O44: the increment and decrement of the register form, on the byte at HL. -/
theorem incrementAndDecrementOfMemory : Obligations.IncrementAndDecrementOfMemory := by
  refine fun s => ⟨?_, ?_⟩
  · rw [exec_incIndHL, inc8_eq_flagsOf]
  · rw [exec_decIndHL, dec8_eq_flagsOf]

/-- DAA in plain numbers (R189, decision D16). -/
theorem daa8_eq_flagsOf (a : Byte) (f : Flags) :
    let low := f.fH = true ∨ a.toNat % 16 > 9
    let high := f.fC = true ∨ a.toNat > 0x99
    let res := BitVec.ofNat 8 (a.toNat + (if low then 6 else 0) + (if high then 96 else 0))
    daa8 a f = (res, flagsOf res (decide high) false) := by
  simp only [daa8, szp_eq_flagsOf, Bool.or_eq_true, Bool.decide_or, Bool.decide_eq_true, Nat.add_assoc, decide_eq_true_iff]
  rfl

theorem exec_daa (s : State) :
    exec .daa s = .next { s with a := (daa8 s.a s.flags).1, flags := (daa8 s.a s.flags).2, pc := s.pc + 1#16 } := rfl

/-- Settles O45. -/
theorem decimalAdjustResult : Obligations.DecimalAdjustResult := by
  intro s
  rw [exec_daa, daa8_eq_flagsOf]

theorem xor_ones_eq_ofNat (v : Byte) : v ^^^ 0xFF#8 = BitVec.ofNat 8 (255 - v.toNat) := by
  have hones : v ^^^ 0xFF#8 = ~~~v := BitVec.xor_allOnes
  apply BitVec.eq_of_toNat_eq
  rw [hones, BitVec.toNat_not, BitVec.toNat_ofNat]
  omega

/-- Settles O47: the complement of a byte is its distance from 255, and is its own inverse. -/
theorem complementAndCarryInstructions : Obligations.ComplementAndCarryInstructions := by
  intro s
  rw [← xor_ones_eq_ofNat]
  refine ⟨rfl, rfl, rfl, _, _, rfl, rfl, ?_⟩
  change s.a ^^^ 0xFF#8 ^^^ 0xFF#8 = s.a
  rw [BitVec.xor_assoc, BitVec.xor_self, BitVec.xor_zero]

/-! ### Pairs -/

theorem stepPair_next (p : Pair) (w : Word) (s : State) :
    stepPair p w s = .next { s.setPair p w with pc := s.pc + 1#16 } := by
  rw [stepPair, State.advance_setPair]

/-- Settles O49. -/
theorem incrementAndDecrementOfPairs : Obligations.IncrementAndDecrementOfPairs := fun p s => by
  rw [exec_incPair, exec_decPair, stepPair_next, stepPair_next, add_one_eq_ofNat, sub_one_eq_ofNat]
  exact ⟨rfl, rfl⟩

end Sys2Proof.Machine
end

section
/-! Rotates, shifts and single bits (spec/44_rotates_shifts.md, spec/45_bit_ops.md): the bit operations in plain numbers,
and the next states stated in them. -/

namespace Sys2Proof.Machine

/-! ### Rotates and shifts -/

theorem toNat_append_eq_add {m n : Nat} (x : BitVec m) (y : BitVec n) : (x ++ y).toNat = x.toNat * 2 ^ n + y.toNat := by
  rw [BitVec.toNat_append, ← Nat.shiftLeft_add_eq_or_of_lt y.isLt, Nat.shiftLeft_eq]

theorem toNat_rotate (op : RotOp) (v : Byte) (cin : Bool) :
    (rotate op v cin).1.toNat = rotatedValue op v.toNat cin.toNat := by
  have hv := v.isLt
  cases op <;>
    simp only [rotate, rotatedValue, toNat_append_eq_add, BitVec.extractLsb'_toNat, Nat.shiftRight_eq_div_pow,
      Nat.reducePow, Nat.div_one, BitVec.toNat_ofNat, BitVec.toNat_ofBool] <;>
    omega

theorem rotate_snd (op : RotOp) (v : Byte) (cin : Bool) : (rotate op v cin).2 = rotatedOut op v.toNat := by
  have hv := v.isLt
  cases op <;> simp only [rotate, rotatedOut, getLsbD_eq_decide, decide_eq_decide] <;> omega

/-- Each rotate and shift in plain numbers (R220). -/
theorem rotate_eq (op : RotOp) (v : Byte) (cin : Bool) :
    rotate op v cin = (BitVec.ofNat 8 (rotatedValue op v.toNat cin.toNat), rotatedOut op v.toNat) := by
  rw [← toNat_rotate, ← rotate_snd op v cin, BitVec.ofNat_toNat, BitVec.setWidth_eq]

theorem rotateA_next (op : RotOp) (s : State) : rotateA op s = .next { s with
    a := BitVec.ofNat 8 (rotatedValue op s.a.toNat s.flags.fC.toNat),
    flags := accumulatorRotateFlags (rotatedOut op s.a.toNat), pc := s.pc + 1#16 } := by
  rw [rotateA, rotate_eq]
  rfl

/-- Settles O50. -/
theorem accumulatorRotates : Obligations.AccumulatorRotates := fun s =>
  ⟨rotateA_next .rlc s, rotateA_next .rrc s, rotateA_next .rl s, rotateA_next .rr s⟩

/-- Settles O51: the rotated operand and the flags of its value. -/
theorem prefixedRotatesAndShifts : Obligations.PrefixedRotatesAndShifts := by
  refine fun op s => ⟨fun r => ?_, ?_⟩
  · rw [exec_rot, rotateOperand, rotate_eq, rotateFlags, szp_eq_flagsOf]
    cases r <;> rfl
  · rw [exec_rot, rotateOperand, rotate_eq, rotateFlags, szp_eq_flagsOf]
    rfl

/-! ### BIT, RES, SET -/

theorem toNat_bitMask (b : Fin 8) : (bitMask b).toNat = 2 ^ b.val := by fin_cases b <;> rfl

/-- The masked value is the bit at its place. -/
theorem toNat_and_bitMask (v : Byte) (b : Fin 8) : (v &&& bitMask b).toNat = (v.getLsbD b).toNat * 2 ^ b.val := by
  have hmask : v &&& bitMask b = if v.getLsbD b = true then bitMask b else 0#8 := BitVec.and_twoPow v b
  rw [hmask]
  cases v.getLsbD b with
  | true => simpa using toNat_bitMask b
  | false => simp

theorem toNat_getLsbD (v : Byte) (i : Nat) : (v.getLsbD i).toNat = v.toNat / 2 ^ i % 2 := Nat.toNat_testBit ..

/-- The flags of BIT in plain numbers (R251, decision D18). -/
theorem bitFlags_eq (v : Byte) (b : Fin 8) (f : Flags) : bitFlags (v &&& bitMask b) f = {
    fZ := decide (v.toNat / 2 ^ b.val % 2 = 0), fC := f.fC
    fS := decide (b.val = 7 ∧ v.toNat / 128 = 1), fH := true
    fP := !decide (b.val = 0 ∧ v.toNat % 2 = 1) } := by
  have hv := v.isLt
  simp only [bitFlags, szp_eq_flagsOf, flagsOf, toNat_and_bitMask, toNat_getLsbD, Flags.mk.injEq, true_and,
    decide_eq_decide, ← decide_not]
  fin_cases b <;> simp <;> omega

theorem exec_bit_next (b : Fin 8) (o : Operand8) (s : State) : exec (Instr.bit b o) s = .next { s with
    flags := bitFlags (s.readOperand o &&& bitMask b) s.flags, pc := s.pc + 2#16 } := exec_bit b o s

/-- Settles O52. -/
theorem bitTests : Obligations.BitTests := by
  refine fun b s => ⟨fun r => ?_, ?_⟩
  · rw [exec_bit_next, bitFlags_eq]
    rfl
  · rw [exec_bit_next, bitFlags_eq]
    rfl

/-- Clearing bits subtracts those that are set. -/
theorem and_not_eq_sub (v m : Byte) : v &&& ~~~m = v - (v &&& m) := by
  have hdisjoint : (v &&& ~~~m) &&& (v &&& m) = 0#8 := by
    ext i hi
    simp only [BitVec.getElem_and, BitVec.getElem_not, BitVec.getElem_zero]
    cases v[i] <;> cases m[i] <;> rfl
  rw [BitVec.eq_sub_iff_add_eq, BitVec.add_eq_or_of_and_eq_zero _ _ hdisjoint, ← BitVec.and_or_distrib_left,
    BitVec.or_comm, BitVec.or_not_self, BitVec.and_allOnes]

/-- Setting bits adds those that are clear. -/
theorem or_eq_add_not_and (v m : Byte) : v ||| m = v + (~~~v &&& m) := by
  have hdisjoint : v &&& (~~~v &&& m) = 0#8 := by
    ext i hi
    simp only [BitVec.getElem_and, BitVec.getElem_not, BitVec.getElem_zero]
    cases v[i] <;> cases m[i] <;> rfl
  rw [BitVec.add_eq_or_of_and_eq_zero _ _ hdisjoint]
  ext i hi
  simp only [BitVec.getElem_and, BitVec.getElem_not, BitVec.getElem_or]
  cases v[i] <;> cases m[i] <;> rfl

/-- RES in plain numbers (R253). -/
theorem and_not_bitMask_eq (v : Byte) (b : Fin 8) :
    v &&& ~~~bitMask b = BitVec.ofNat 8 (v.toNat - v.toNat / 2 ^ b.val % 2 * 2 ^ b.val) := by
  have hle : (v &&& bitMask b).toNat ≤ v.toNat := by
    rw [BitVec.toNat_and]
    exact Nat.and_le_left
  have hv := v.isLt
  rw [← toNat_getLsbD, ← toNat_and_bitMask, and_not_eq_sub]
  apply BitVec.eq_of_toNat_eq
  rw [BitVec.toNat_sub, BitVec.toNat_ofNat]
  omega

/-- SET in plain numbers (R255). -/
theorem or_bitMask_eq (v : Byte) (b : Fin 8) :
    v ||| bitMask b = BitVec.ofNat 8 (v.toNat + (1 - v.toNat / 2 ^ b.val % 2) * 2 ^ b.val) := by
  have hclear : (~~~v).getLsbD b.val = !v.getLsbD b.val := by simp [b.isLt]
  have hbit : 1 - (v.getLsbD b).toNat = ((~~~v).getLsbD b).toNat := by
    rw [hclear]
    cases v.getLsbD b.val <;> rfl
  rw [← toNat_getLsbD, hbit, ← toNat_and_bitMask, or_eq_add_not_and]
  apply BitVec.eq_of_toNat_eq
  rw [BitVec.toNat_add, BitVec.toNat_ofNat]

/-- Settles O53. -/
theorem bitResetAndSet : Obligations.BitResetAndSet := by
  refine fun b s => ⟨fun r => ⟨?_, ?_⟩, ?_, ?_⟩
  · rw [exec_res, clearBit, and_not_bitMask_eq]
    exact congrArg _ (State.advance_setReg ..)
  · rw [exec_set, setBit, or_bitMask_eq]
    exact congrArg _ (State.advance_setReg ..)
  · rw [exec_res, clearBit, and_not_bitMask_eq]
    rfl
  · rw [exec_set, setBit, or_bitMask_eq]
    rfl

end Sys2Proof.Machine
end

section
/-! Control transfers and the instructions that only advance PC (spec/46_control_transfer.md, spec/47_misc_control.md). -/

namespace Sys2Proof.Machine

/-! ### Jumps, calls and returns -/

theorem jumpIf_next (cc : Cond) (target : Word) (len : Nat) (s : State) : jumpIf cc target len s = .next { s with
    pc := if takenWhen cc s.flags then target else s.pc + BitVec.ofNat 16 len } := by
  rw [jumpIf, condHolds_eq_takenWhen]
  split <;> rfl

/-- A three-byte instruction faults at the top of memory, whatever it does (R66, R300). -/
theorem step_fault_of_opN16 {s : State} {op : Byte} (hop : s.opcode = op.toNat)
    (hformat : (baseEntry op).format = .opN16) (hpc : s.pc.toNat ≥ 0xFFFE) :
    step s = .fault (.boundsViolation 0x10000) := by
  rw [step_of_opcode hop, hformat, if_neg]
  simp only [Format.fetched]
  omega

/-- Settles O54: the fetch of the immediate comes before the condition. -/
theorem absoluteJumps : Obligations.AbsoluteJumps := by
  refine fun nn s => ⟨rfl, rfl, ?_, rfl, rfl, rfl, rfl, fun cc => ?_, ?_⟩
  · exact fun hop => step_fault_of_opN16 (op := 0xC3) hop rfl
  · rw [exec_jpCond, jumpIf_next]
  · rintro (hop | hop | hop | hop)
    · exact step_fault_of_opN16 (op := 0xC2) hop rfl
    · exact step_fault_of_opN16 (op := 0xCA) hop rfl
    · exact step_fault_of_opN16 (op := 0xD2) hop rfl
    · exact step_fault_of_opN16 (op := 0xDA) hop rfl

/-- Settles O55: the target is the integer sum mod 65536. -/
theorem jumpThroughHLAndRelativeJumps : Obligations.JumpThroughHLAndRelativeJumps := by
  intro e s
  rw [← relativeTarget_eq]
  exact ⟨rfl, rfl, fun cc => by rw [exec_jrCond, jumpIf_next]⟩

theorem callIf_of_taken {cc : Cond} {s : State} (h : takenWhen cc s.flags = true) (nn : Word) :
    callIf cc nn s = callTo s (s.pc + 3#16) nn := by
  rw [callIf, condHolds_eq_takenWhen, if_pos h]

theorem callIf_of_not_taken {cc : Cond} {s : State} (h : takenWhen cc s.flags = false) (nn : Word) :
    callIf cc nn s = .next (s.advance 3) := by
  rw [callIf, condHolds_eq_takenWhen, h]
  rfl

theorem returnIf_of_taken {cc : Cond} {s : State} (h : takenWhen cc s.flags = true) :
    returnIf cc s = returnToCaller s := by
  rw [returnIf, condHolds_eq_takenWhen, if_pos h]

theorem returnIf_of_not_taken {cc : Cond} {s : State} (h : takenWhen cc s.flags = false) :
    returnIf cc s = .next (s.advance 1) := by
  rw [returnIf, condHolds_eq_takenWhen, h]
  rfl

theorem restartTarget_eq (n : Fin 8) : restartTarget n = BitVec.ofNat 16 (8 * n.val) := by
  rw [restartTarget, Nat.mul_comm]

/-- Settles O56: each form is one call, or an advance of PC. -/
theorem callsAndRestarts : Obligations.CallsAndRestarts := by
  intro nn cc n s
  rw [exec_rst, exec_callCond, restart, restartTarget_eq]
  refine ⟨fun hsp => ⟨callTo_ok s _ _ hsp, callTo_ok s _ _ hsp, fun h => ?_⟩, fun h => callIf_of_not_taken h nn,
    fun hsp => ⟨callTo_fault s _ _ hsp, callTo_fault s _ _ hsp, fun h => ?_⟩⟩
  · rw [callIf_of_taken h]
    exact callTo_ok s _ _ hsp
  · rw [callIf_of_taken h]
    exact callTo_fault s _ _ hsp

/-- Settles O57: each form is one return, or an advance of PC. -/
theorem returns : Obligations.Returns := by
  intro cc s
  rw [exec_retCond]
  refine ⟨fun hsp => ⟨returnToCaller_ok s hsp, returnToCaller_ok s hsp, fun h => ?_⟩, returnIf_of_not_taken,
    fun hsp => ⟨returnToCaller_fault s hsp, returnToCaller_fault s hsp, fun h => ?_⟩⟩
  · rw [returnIf_of_taken h]
    exact returnToCaller_ok s hsp
  · rw [returnIf_of_taken h]
    exact returnToCaller_fault s hsp

/-! ### Instructions that only advance PC -/

/-- Settles O58: STOP's format fetches its opcode alone. -/
theorem instructionsThatOnlyAdvancePc : Obligations.InstructionsThatOnlyAdvancePc := by
  refine fun s => ⟨fun i hi => ?_, rfl, fun hop => ?_, rfl⟩
  · fin_cases hi <;> rfl
  · rw [step_of_opcode (op := 0x10) hop]
    exact if_pos s.pc.isLt

end Sys2Proof.Machine
end

section
/-! Statements about memory, round trips and runs (spec/20_memory.md section 5, spec/41_loads_16bit_stack.md,
spec/42_alu_8bit.md R189, spec/70_reset_and_hazards.md): what two or more operations give together. -/

namespace Sys2Proof.Machine

/-! ### Self-modifying code -/

/-- Settles O22: the step stores at HL and PC moves there. -/
theorem nextFetchSeesTheStore : Obligations.NextFetchSeesTheStore := by
  intro s hop hpc hhl
  have hlt := s.pc.isLt
  have hstep : step s = exec (.ldIndHL_n s.second) s := by
    rw [step_of_opcode (op := 0x36) hop]
    exact if_pos (show s.pc.toNat + 2 ≤ 0x10000 by omega)
  refine ⟨_, hstep, hhl.symm, ?_⟩
  change ((s.mem.write s.hl.toNat s.second).read (s.pc + 2#16).toNat).toNat = s.second.toNat
  rw [← hhl, Memory.read_write_same]

/-! ### The canonical form is canonical -/

/-- In the canonical form the entries are the bytes that differ from the unloaded one. -/
theorem Memory.mem_iff_read {m : Memory} (h : m.wf) (p : Host.Cell) :
    p ∈ m ↔ m.read p.1 = p.2 ∧ p.2 ≠ Config.unloadedByte := by
  induction m with
  | nil => simp [Memory.read, eq_comm]
  | cons q m ih =>
    obtain ⟨hsorted, hcells⟩ := h
    rw [List.pairwise_cons] at hsorted
    obtain ⟨hbelow, hsorted⟩ := hsorted
    have hq := (hcells q List.mem_cons_self).2
    have ih := ih ⟨hsorted, fun x hx => hcells x (List.mem_cons_of_mem q hx)⟩
    obtain ⟨k, v⟩ := q
    obtain ⟨j, w⟩ := p
    rw [List.mem_cons, Memory.read]
    split
    · next hkj =>
      have hnot : (j, w) ∉ m := fun hmem => absurd (hbelow _ hmem) (by simp [hkj])
      simp only [hnot, or_false, Prod.mk.injEq]
      constructor
      · rintro ⟨-, rfl⟩
        exact ⟨rfl, hq⟩
      · rintro ⟨hvw, -⟩
        exact ⟨hkj.symm, hvw.symm⟩
    · next hkj =>
      simp [ih, Ne.symm hkj]

/-- Settles O23: both lists rise strictly and have the same entries. -/
theorem canonicalMemoriesThatReadAlikeAreEqual : Obligations.CanonicalMemoriesThatReadAlikeAreEqual := by
  intro m n hm hn hread
  have hsame : ∀ p, p ∈ m ↔ p ∈ n := fun p => by rw [Memory.mem_iff_read hm, Memory.mem_iff_read hn, hread]
  have : Std.Irrefl fun p q : Host.Cell => p.1 < q.1 := ⟨fun p => lt_irrefl p.1⟩
  have : Std.Antisymm fun p q : Host.Cell => p.1 < q.1 := ⟨fun _ _ hpq hqp => absurd hpq hqp.not_gt⟩
  exact hm.1.eq_of_mem_iff hn.1 hsame

/-! ### Stack round trips -/

/-- A word pushed at `s` is popped again, whatever else the push's step wrote. -/
theorem pop16_after_push {s t : State} {w : Word} (h : 2 ≤ s.sp.toNat) (hmem : t.mem = s.pushedMem (hi8 w) (lo8 w))
    (hsp : t.sp = s.sp - 2#16) : pop16 t = .ok (w, { t with sp := s.sp }) := by
  have hlt := s.sp.isLt
  have hlow : t.sp.toNat = s.sp.toNat - 2 := by rw [hsp]; bv_omega
  have hhigh : t.sp.toNat + 1 = s.sp.toNat - 1 := by omega
  have hback : t.sp + 2#16 = s.sp := by rw [hsp]; exact BitVec.sub_add_cancel ..
  rw [pop16_ok t (by omega), hback, hhigh, hlow, hmem, State.pushedMem, Memory.read_write_same,
    Memory.read_write_other _ _ _ _ (by omega), Memory.read_write_same, wordOf_hi8_lo8]

theorem returnToCaller_of_pop16 {s t : State} {w : Word} (h : pop16 s = .ok (w, t)) :
    returnToCaller s = .next (t.setPc w) := by
  rw [returnToCaller, h]

theorem popPair_of_pop16 {s t : State} {w : Word} (h : pop16 s = .ok (w, t)) (p : Pair) :
    popPair p s = .next ((t.setPair p w).advance 1) := by
  rw [popPair, h]

theorem popAfWith_of_pop16 {s t : State} {w : Word} (h : pop16 s = .ok (w, t)) (p : FlagPacking) :
    popAfWith p s = .next ((t.setAfWith p w).advance 1) := by
  rw [popAfWith, h]

@[simp] theorem State.pair_advance (s : State) (n : Nat) (p : Pair) : (s.advance n).pair p = s.pair p := by
  cases p <;> rfl

/-- A return after a call comes back behind the call. -/
theorem returnToCaller_after_callTo {s : State} (h : 2 ≤ s.sp.toNat) (ret target : Word) :
    ∃ t u, callTo s ret target = .next t ∧ t.pc = target ∧ returnToCaller t = .next u ∧ u.pc = ret ∧ u.sp = s.sp :=
  ⟨_, _, callTo_ok s ret target h, rfl, returnToCaller_of_pop16 (pop16_after_push (w := ret) h rfl rfl), rfl, rfl⟩

theorem exec_push_pair (p : Fin 3) (s : State) :
    exec (Instr.push (stackPairOf p.castSucc)) s = pushWord (s.pair (pairOf p.castSucc)) s := by
  fin_cases p <;> rfl

theorem exec_pop_pair (p : Fin 3) (s : State) :
    exec (Instr.pop (stackPairOf p.castSucc)) s = popPair (pairOf p.castSucc) s := by
  fin_cases p <;> rfl

theorem popPair_after_pushWord {s : State} (h : 2 ≤ s.sp.toNat) (w : Word) (p : Fin 3) :
    ∃ t u, pushWord w s = .next t ∧ popPair (pairOf p.castSucc) t = .next u ∧
      u.pair (pairOf p.castSucc) = w ∧ u.sp = s.sp := by
  refine ⟨_, _, pushWord_ok s w h, popPair_of_pop16 (pop16_after_push (w := w) h rfl rfl) _, ?_, sp_setPair_view p w⟩
  rw [State.pair_advance, State.pair_setPair_same]

theorem popAfWith_after_pushAfWith {s : State} (h : 2 ≤ s.sp.toNat) {p : FlagPacking} (hp : p.Lawful) :
    ∃ t u, pushAfWith p s = .next t ∧ popAfWith p t = .next u ∧ u.a = s.a ∧ u.flags = s.flags ∧ u.sp = s.sp := by
  refine ⟨_, _, pushWord_ok s (s.afWith p) h, 
    popAfWith_of_pop16 (pop16_after_push (w := s.afWith p) h rfl rfl) p, ?_, ?_, rfl⟩
  · simp [State.afWith]
  · simp [State.afWith, hp s.flags]

theorem lawful_flagPacking : flagPacking.Lawful := by
  rintro ⟨z, c, s, h, p⟩
  revert z c s h p
  decide

/-- Settles O36: what is pushed is popped, and the returns pop what the calls push. -/
theorem stackRoundTripsRestore : Obligations.StackRoundTripsRestore := by
  intro s hsp
  refine ⟨fun p q => ?_, fun _ hp => popAfWith_after_pushAfWith hsp hp, lawful_flagPacking, fun _ => ⟨rfl, rfl⟩,
    fun nn => returnToCaller_after_callTo hsp _ nn, fun cc nn htaken => ?_, fun n => ?_⟩
  · simp only [exec_push_pair, exec_pop_pair]
    exact popPair_after_pushWord hsp _ q
  · rw [exec_callCond, callIf_of_taken htaken]
    exact returnToCaller_after_callTo hsp _ nn
  · obtain ⟨t, u, hcall, hpc, hret, hback, hu⟩ := returnToCaller_after_callTo hsp (s.pc + 1#16) (restartTarget n)
    refine ⟨t, u, (exec_rst n s).trans hcall, ?_, hret, hback, hu⟩
    rw [hpc]
    fin_cases n <;> rfl

/-! ### Decimal addition -/

theorem toNat_bcd {x : Nat} (h : x < 100) : (bcd x).toNat = x / 10 * 16 + x % 10 := by
  rw [bcd, BitVec.toNat_ofNat]
  omega

/-- DAA on the sum of two packed-BCD bytes and a carry, with the flags of that sum. -/
theorem daa8_of_bcd_sum {x y c : Nat} (hx : x < 100) (hy : y < 100) (hc : c ≤ 1) {f : Flags}
    (hcarry : f.fC = decide ((bcd x).toNat + ((bcd y).toNat + c) > 0xFF))
    (hhalf : f.fH = decide ((bcd x).toNat % 16 + ((bcd y).toNat % 16 + c) > 0xF)) :
    let res := daa8 (BitVec.ofNat 8 ((bcd x).toNat + ((bcd y).toNat + c))) f
    res.1 = bcd ((x + y + c) % 100) ∧ res.2.fC = decide (x + y + c ≥ 100) := by
  have hlow : (f.fH = true ∨ (BitVec.ofNat 8 ((bcd x).toNat + ((bcd y).toNat + c))).toNat % 16 > 9) ↔
      x % 10 + y % 10 + c ≥ 10 := by
    rw [hhalf, decide_eq_true_iff, BitVec.toNat_ofNat, toNat_bcd hx, toNat_bcd hy]
    omega
  have hhigh : (f.fC = true ∨ (BitVec.ofNat 8 ((bcd x).toNat + ((bcd y).toNat + c))).toNat > 0x99) ↔
      x + y + c ≥ 100 := by
    rw [hcarry, decide_eq_true_iff, BitVec.toNat_ofNat, toNat_bcd hx, toNat_bcd hy]
    rcases Nat.lt_or_ge (x / 10 * 16 + x % 10 + (y / 10 * 16 + y % 10 + c)) 256 with hsum | hsum
    · rw [Nat.mod_eq_of_lt hsum]
      omega
    · omega
  simp only [daa8_eq_flagsOf, hlow, hhigh]
  refine ⟨BitVec.eq_of_toNat_eq ?_, rfl⟩
  rw [BitVec.toNat_ofNat, BitVec.toNat_ofNat, toNat_bcd hx, toNat_bcd hy, toNat_bcd (Nat.mod_lt _ (by decide))]
  split <;> split <;> omega

/-- Settles O46: DAA reads the two carries of the sum that ADD and ADC have left. -/
theorem decimalAdditionIsCorrected : Obligations.DecimalAdditionIsCorrected := by
  intro x y s hx hy ha
  refine ⟨⟨_, _, exec_add (.imm (bcd y)) s, exec_daa _, ?_⟩, ⟨_, _, exec_adc (.imm (bcd y)) s, exec_daa _, ?_⟩⟩
  · rw [ha]
    exact daa8_of_bcd_sum (c := 0) hx hy (by omega) rfl rfl
  · rw [ha]
    exact daa8_of_bcd_sum hx hy s.flags.fC.toNat_le rfl rfl

end Sys2Proof.Machine
end

section
/-! The statements about the driver (spec/20_memory.md R64, spec/70_reset_and_hazards.md R321 to R328): loading and runs. -/

namespace Sys2Proof.Machine

/-! ### Loading -/

/-- Storing a run of bytes leaves every byte outside it. -/
theorem Memory.read_storeFrom_outside (m : Memory) (x : Nat) (vs : List Byte) {addr : Nat}
    (h : addr < x ∨ x + vs.length ≤ addr) : (m.storeFrom x vs).read addr = m.read addr := by
  induction vs generalizing m x with
  | nil => rfl
  | cons v vs ih =>
    rw [List.length_cons] at h
    rw [Memory.storeFrom]
    split
    · rw [ih _ _ (by omega), Memory.read_write_other _ _ _ _ (by omega)]
    · rfl

/-- A run of bytes that fits is read back byte by byte. -/
theorem Memory.read_storeFrom_inside (m : Memory) (x : Nat) (vs : List Byte) (hfit : x + vs.length ≤ Config.memSize)
    (k : Nat) (hk : k < vs.length) : (m.storeFrom x vs).read (x + k) = vs[k] := by
  induction vs generalizing m x k with
  | nil => cases hk
  | cons v vs ih =>
    rw [List.length_cons] at hfit hk
    rw [Memory.storeFrom, if_pos (by omega)]
    cases k with
    | zero => rw [Memory.read_storeFrom_outside _ _ _ (by omega)]; exact Memory.read_write_same ..
    | succ k => rw [show x + (k + 1) = x + 1 + k by omega, ih _ _ (by omega) k (by omega)]; rfl

theorem State.loadMemory_ok (s : State) {bytes : List Byte} {off : Int} (hoff : 0 ≤ off)
    (hfit : off + bytes.length ≤ 65536) :
    s.loadMemory bytes off = .next { s with mem := s.mem.storeFrom off.toNat bytes } := by
  refine if_neg ?_
  unfold Config.memSize
  omega

theorem State.loadMemory_refused (s : State) {bytes : List Byte} {off : Int}
    (h : off < 0 ∨ off + bytes.length > 65536) :
    s.loadMemory bytes off = .refused (.loadOutOfBounds off bytes.length) := by
  exact if_pos h

/-- A load that is not refused changes memory alone, and keeps the canonical form. -/
theorem State.loadMemory_next {s t : State} {bytes : List Byte} {off : Int} (h : s.loadMemory bytes off = .next t) :
    t = { s with mem := t.mem } ∧ (s.mem.wf → t.mem.wf) := by
  unfold State.loadMemory at h
  split at h
  · cases h
  · cases h
    exact ⟨rfl, fun hwf => Memory.wf_storeFrom hwf _ _⟩

theorem State.loadAll_next {s t : State} {loads : List Load} (h : s.loadAll loads = .next t) :
    t = { s with mem := t.mem } ∧ (s.mem.wf → t.mem.wf) := by
  induction loads generalizing s with
  | nil => cases h; exact ⟨rfl, id⟩
  | cons x xs ih =>
    rw [State.loadAll] at h
    split at h
    · next u hu =>
      obtain ⟨hfirst, hwf⟩ := State.loadMemory_next hu
      obtain ⟨hrest, hwf'⟩ := ih h
      exact ⟨hrest.trans (by rw [hfirst]), hwf' ∘ hwf⟩
    · cases h
    · cases h

/-- Settles O59: one call stores a run of bytes; a launch is a sequence of calls from the reset state. -/
theorem loadMemoryCopiesOrRefuses : Obligations.LoadMemoryCopiesOrRefuses := by
  refine ⟨fun s bytes off hoff hfit => ?_, fun s bytes off h => ⟨_, s.loadMemory_refused h⟩, fun loads s h => ?_⟩
  · have hnext := s.loadMemory_ok hoff hfit
    obtain ⟨hsame, hwf⟩ := State.loadMemory_next hnext
    exact ⟨_, hnext, hsame, hwf, Memory.read_storeFrom_inside _ _ _ (by unfold Config.memSize; omega),
      fun addr haddr => Memory.read_storeFrom_outside _ _ _ haddr⟩
  · obtain ⟨hsame, hwf⟩ := State.loadAll_next h
    exact ⟨hsame, hwf State.wf_reset⟩

/-! ### Runs -/

theorem stateAfter_succ_eq_some {s u : State} {j : Nat} (h : stateAfter (j + 1) s = some u) :
    ∃ v, step s = .next v ∧ stateAfter j v = some u := by
  cases hs : step s with
  | next v => exact ⟨v, rfl, by rw [← stateAfter_succ_of_next hs, h]⟩
  | fault f => rw [stateAfter_succ_of_fault hs] at h; cases h
  | refused r => exact absurd hs (step_ne_refused s r)

/-- A step at the opcode HALT completes, sets the latch and moves PC by one (R282). -/
theorem step_of_halt {s : State} (h : s.opcode = 0x76) :
    step s = .next { s with halted := true, pc := s.pc + 1#16 } := by
  rw [step_of_opcode (op := 0x76) h]
  exact if_pos s.pc.isLt

/-- A step that sets the latch ran HALT. -/
theorem opcode_of_step_sets_latch {s t : State} (hs : s.halted = false) (h : step s = .next t) (ht : t.halted = true) :
    s.opcode = 0x76 := by
  have hlatch : t.halted = (s.halted || decide (s.opcode = 0x76)) := (allows_of_step_next h).halted
  simpa [hs, ht] using hlatch

/-- The run from `s` reaches `j` further states, and the latch is clear in `s` and in each of them. -/
def ClearUpTo (j : Nat) (s : State) : Prop := ∀ i, i ≤ j → ∃ v, stateAfter i s = some v ∧ v.halted = false

theorem clearUpTo_zero {s : State} (h : s.halted = false) : ClearUpTo 0 s := by
  intro i hi
  cases Nat.le_zero.mp hi
  exact ⟨s, rfl, h⟩

theorem ClearUpTo.halted {j : Nat} {s : State} (h : ClearUpTo j s) : s.halted = false := by
  obtain ⟨v, hv, hclear⟩ := h 0 (Nat.zero_le j)
  cases hv
  exact hclear

theorem clearUpTo_succ_iff {s v : State} (h : step s = .next v) (j : Nat) :
    ClearUpTo (j + 1) s ↔ s.halted = false ∧ ClearUpTo j v := by
  constructor
  · intro hclear
    refine ⟨hclear.halted, fun i hi => ?_⟩
    rw [← stateAfter_succ_of_next h]
    exact hclear (i + 1) (Nat.succ_le_succ hi)
  · rintro ⟨hs, hclear⟩ i hi
    cases i with
    | zero => exact ⟨s, rfl, hs⟩
    | succ i =>
      rw [stateAfter_succ_of_next h]
      exact hclear i (Nat.le_of_succ_le_succ hi)

/-- A halted run reached HALT, by induction on the budget. -/
theorem first_halt_of_runToHalt {k : Nat} {s t : State} (hs : s.halted = false) (h : runToHalt k s = .halted t) :
    ∃ j u, j < k ∧ stateAfter j s = some u ∧ ClearUpTo j s ∧ u.opcode = 0x76 ∧ step u = .next t := by
  induction k generalizing s with
  | zero => cases h
  | succ k ih =>
    cases hstep : step s with
    | next v =>
      rw [runToHalt_succ_of_next hstep] at h
      cases hv : v.halted with
      | true =>
        rw [hv, if_pos rfl] at h
        cases h
        exact ⟨0, s, k.succ_pos, rfl, clearUpTo_zero hs, opcode_of_step_sets_latch hs hstep hv, hstep⟩
      | false =>
        rw [hv, if_neg Bool.false_ne_true] at h
        obtain ⟨j, u, hj, hu, hclear, hop, hlast⟩ := ih hv h
        exact ⟨j + 1, u, Nat.succ_lt_succ hj, by rw [stateAfter_succ_of_next hstep, hu],
          (clearUpTo_succ_iff hstep j).mpr ⟨hs, hclear⟩, hop, hlast⟩
    | fault f => rw [runToHalt_succ_of_fault hstep] at h; cases h
    | refused r => exact absurd hstep (step_ne_refused s r)

/-- A run that reaches HALT ends halted there, by induction on the steps before it. -/
theorem runToHalt_of_first_halt {k j : Nat} {s u : State} (hj : j < k) (hu : stateAfter j s = some u)
    (hclear : ClearUpTo j s) (hop : u.opcode = 0x76) : ∃ t, step u = .next t ∧ runToHalt k s = .halted t := by
  induction j generalizing k s with
  | zero =>
    cases k with
    | zero => cases hj
    | succ k =>
      cases hu
      exact ⟨_, step_of_halt hop, by rw [runToHalt_succ_of_next (step_of_halt hop)]; rfl⟩
  | succ j ih =>
    cases k with
    | zero => cases hj
    | succ k =>
      obtain ⟨v, hstep, hu⟩ := stateAfter_succ_eq_some hu
      obtain ⟨-, hclear⟩ := (clearUpTo_succ_iff hstep j).mp hclear
      obtain ⟨t, hlast, hrun⟩ := ih (Nat.lt_of_succ_lt_succ hj) hu hclear
      exact ⟨t, hlast, by rw [runToHalt_succ_of_next hstep, hclear.halted, if_neg Bool.false_ne_true, hrun]⟩

/-- A run that ends within the budget ends the same way within a larger one. -/
theorem runToHalt_add {k : Nat} {s : State} (hend : ∀ t, runToHalt k s ≠ .unfinished t) (n : Nat) :
    runToHalt (k + n) s = runToHalt k s := by
  induction k generalizing s with
  | zero => exact absurd rfl (hend s)
  | succ k ih =>
    rw [Nat.succ_add]
    cases hstep : step s with
    | next v =>
      rw [runToHalt_succ_of_next hstep] at hend
      rw [runToHalt_succ_of_next hstep, runToHalt_succ_of_next hstep]
      cases hv : v.halted with
      | true => rfl
      | false => exact ih (by simpa [hv] using hend)
    | fault f => rw [runToHalt_succ_of_fault hstep, runToHalt_succ_of_fault hstep]
    | refused r => rw [runToHalt_succ_of_refused hstep, runToHalt_succ_of_refused hstep]

/-- Settles O60: both directions of the first HALT, and the budget. -/
theorem runsEndAtTheFirstHalt : Obligations.RunsEndAtTheFirstHalt := by
  refine fun k s => ⟨fun t hs h => ?_, fun j u hj hu hclear hop => runToHalt_of_first_halt hj hu hclear hop,
    fun n t h => ?_, fun n f h => ?_⟩
  · obtain ⟨j, u, hj, hu, hclear, hop, hlast⟩ := first_halt_of_runToHalt hs h
    have ht := hlast
    rw [step_of_halt hop] at ht
    cases ht
    exact ⟨j, u, hj, hu, hclear, hop, hlast, rfl, rfl⟩
  · rw [runToHalt_add (by simp [h]), h]
  · rw [runToHalt_add (by simp [h]), h]

end Sys2Proof.Machine
end
